-- ==== Sys2Proof/Word.lean ====
section
/-! DEFINITION. The words and small numbers of the 4682: a word is 16 bits, the width of a port access (00 section 4),
a byte is the unit of the maintenance link, and ports, tags, slots and lines are numbered as the spec numbers them. -/

namespace Sys2Proof

/-- A word, the width of a port access (00 section 4); bit 0 is the least significant. -/
abbrev Word := BitVec 16

/-- A byte of the maintenance link (10, introduction). -/
abbrev Byte := BitVec 8

/-- A requester port, P0 to P3 (00 section 4). -/
abbrev Port := Fin 4

/-- A tag, 0 to 15, chosen by the board (R142). -/
abbrev Tag := BitVec 4

/-- A slot of the Record Table, 0 to 255 (R1). -/
abbrev Slot := Fin 256

/-- A generation, 0 to 255, which wraps (R1, R2). -/
abbrev Gen := BitVec 8

/-- An alert line, AL0 to AL7 (R125). -/
abbrev LineNo := Fin 8

/-- A flag of a FLAGS record, 0 to 15 (R99). -/
abbrev FlagNo := Fin 16

end Sys2Proof
end

