-- ==== Sys2Proof/Syntax.lean ====
section
/-! DEFINITION. The commands of the block: one constructor for each row of spec/opcode_table.json. The table gives its rows
no bits and no operands; the operands here are what the row's rule needs from outside the state (INVENTORY.md,
"Instructions"; notes/assumptions/14.md). -/

namespace Sys2Proof

/-- A memory of the self-check (R169). -/
inductive Area where
  | slot | holding | waiter
  deriving DecidableEq, Repr

/-- What happens in the self-check pass before its end (R169): RESET is deasserted and the pass begins, or a word of one
memory reads back other than as written. -/
inductive SelfCheckEvent where
  | resetReleased
  | wordFailed (area : Area)
  deriving DecidableEq, Repr

/-- The two moments of a PURGE (R178): the command is taken at its argument byte, and its event is taken at the Record Table
once any event in progress there is done. `atOnce` is both in one, when no event is in progress; `deferred` is the taking
alone; `work` is the event that a deferred PURGE still owes. -/
inductive PurgeMoment where
  | atOnce (slot : Byte)
  | deferred (slot : Byte)
  | work
  deriving DecidableEq, Repr

/-- The requests of the table of 10.2. -/
inductive ReqCode where
  | attach | detach | cancel | nextNotice | readLines | limits
  | create | retire | adopt | find | scan | read | watch | assignLine
  | acquire | acquireWait | release | restock | readHolders
  | add | set | compareSet | clearLimit
  | setFlags | clearFlags | toggleFlags | claim | unclaim
  | next | refill
  deriving DecidableEq, Repr

/-- The commands of the maintenance link, the table of 10.7. -/
inductive LinkCommand where
  | status | counts | readRecord | purge | clearTable
  | fence | unfence | portReset | setWaitUnit | setMattnMask | clearMattn
  deriving DecidableEq, Repr

/-- The commands of the block, the rows of spec/opcode_table.json in its order. -/
inductive Instr where
  /-- DEVICE_RESET (R168): RESET is asserted. -/
  | deviceReset
  /-- POWER_ON (R168): power comes on, with RESET held asserted or not. -/
  | powerOn (resetHeld : Bool)
  /-- SELF_CHECK (R169): RESET is deasserted and the pass begins, or a word of it fails. -/
  | selfCheck (e : SelfCheckEvent)
  /-- SELF_CHECK_END (R170). -/
  | selfCheckEnd
  /-- STAGE_WRITE (R136): a write of `w` to STAGE at port `p`. -/
  | stageWrite (p : Port) (w : Word)
  /-- SUBMISSION (R137): a write of the header word `w` to SUBMIT at port `p`. -/
  | submission (p : Port) (w : Word)
  /-- RESPONSE_READ (R144): a read of RESPONSE at port `p`. -/
  | responseRead (p : Port)
  /-- ATTENTION_ENABLES (R147): a write of the control word `w` to CONTROL at port `p`. -/
  | attentionEnables (p : Port) (w : Word)
  /-- CLEAR_REFUSAL (R139): a CONTROL write with bit 2, clear refusal, set. -/
  | clearRefusal (p : Port) (w : Word)
  /-- CLEAR_STAGING (R136): a CONTROL write with bit 3, clear staging, set. -/
  | clearStaging (p : Port) (w : Word)
  /-- IGNORED_WRITE (R134): a write of `w` at an offset the port ignores. -/
  | ignoredWrite (p : Port) (offset : BitVec 3) (w : Word)
  /-- ATTACH (R141): a write to SUBMIT of the ATTACH header with the tag. -/
  | attach (p : Port) (tag : Tag)
  /-- DETACH (R157), taken at port `p`'s turn. -/
  | detach (p : Port)
  /-- CANCEL (R79), taken at port `p`'s turn. -/
  | cancel (p : Port)
  /-- NEXT_NOTICE (R122), taken at port `p`'s turn. -/
  | nextNotice (p : Port)
  /-- READ_LINES (R131), taken at port `p`'s turn. -/
  | readLines (p : Port)
  /-- LIMITS (R23), taken at port `p`'s turn. -/
  | limits (p : Port)
  /-- CREATE (R14), taken at port `p`'s turn. -/
  | create (p : Port)
  /-- RETIRE (R16), taken at port `p`'s turn. -/
  | retire (p : Port)
  /-- ADOPT (R21), taken at port `p`'s turn. -/
  | adopt (p : Port)
  /-- FIND (R30), taken at port `p`'s turn. -/
  | find (p : Port)
  /-- SCAN (R33), taken at port `p`'s turn. -/
  | scan (p : Port)
  /-- READ (R22), taken at port `p`'s turn. -/
  | read (p : Port)
  /-- WATCH (R116), taken at port `p`'s turn. -/
  | watch (p : Port)
  /-- ASSIGN_LINE (R128), taken at port `p`'s turn. -/
  | assignLine (p : Port)
  /-- ACQUIRE (R48), taken at port `p`'s turn. -/
  | acquire (p : Port)
  /-- ACQUIRE_WAIT (R66), taken at port `p`'s turn. -/
  | acquireWait (p : Port)
  /-- RELEASE (R52), taken at port `p`'s turn. -/
  | release (p : Port)
  /-- RESTOCK (R55), taken at port `p`'s turn. -/
  | restock (p : Port)
  /-- READ_HOLDERS (R60), taken at port `p`'s turn. -/
  | readHolders (p : Port)
  /-- ADD (R91), taken at port `p`'s turn. -/
  | add (p : Port)
  /-- SET (R92), taken at port `p`'s turn. -/
  | set (p : Port)
  /-- COMPARE_SET (R93), taken at port `p`'s turn. -/
  | compareSet (p : Port)
  /-- CLEAR_LIMIT (R94), taken at port `p`'s turn. -/
  | clearLimit (p : Port)
  /-- SET_FLAGS (R102), taken at port `p`'s turn. -/
  | setFlags (p : Port)
  /-- CLEAR_FLAGS (R102), taken at port `p`'s turn. -/
  | clearFlags (p : Port)
  /-- TOGGLE_FLAGS (R102), taken at port `p`'s turn. -/
  | toggleFlags (p : Port)
  /-- CLAIM (R103), taken at port `p`'s turn. -/
  | claim (p : Port)
  /-- UNCLAIM (R104), taken at port `p`'s turn. -/
  | unclaim (p : Port)
  /-- NEXT (R110), taken at port `p`'s turn. -/
  | next (p : Port)
  /-- REFILL (R113), taken at port `p`'s turn. -/
  | refill (p : Port)
  /-- GRANT (R73) of the head waiter of the record in slot `i`. -/
  | grant (i : Slot)
  /-- DRAIN_COMPLETION (R19) of the record in slot `i`. -/
  | drainCompletion (i : Slot)
  /-- UNIT_BOUNDARY (R77): the current wait unit ends. -/
  | unitBoundary
  /-- EXPIRY (R78): the expiry event handed on for the record of slot `i` at generation `g` is taken. -/
  | expiry (i : Slot) (g : Gen)
  /-- PRST_ASSERTION (R155): PRSTn changes from deasserted to asserted. -/
  | prstAssertion (p : Port)
  /-- WALK_STEP (R161): a turn of the Reclaim Walker. -/
  | walkStep
  /-- FRAME_START (R172): chip select is asserted. -/
  | frameStart
  /-- FRAME_END (R172): chip select is deasserted. -/
  | frameEnd
  /-- UNKNOWN_COMMAND (R172): the command byte `b` names no command. -/
  | unknownCommand (b : Byte)
  /-- STATUS (R175), taken at its command byte. -/
  | status
  /-- COUNTS (R176), taken at its command byte. -/
  | counts
  /-- READ_RECORD (R177), taken at its argument byte. -/
  | readRecord (b : Byte)
  /-- PURGE (R178). -/
  | purge (m : PurgeMoment)
  /-- CLEAR_TABLE (R179), taken at its command byte. -/
  | clearTable
  /-- CLEAR_TABLE_SLOT (R179): the clear deals with its next slot. -/
  | clearTableSlot
  /-- FENCE (R181), taken at its argument byte. -/
  | fence (b : Byte)
  /-- UNFENCE (R181), taken at its argument byte. -/
  | unfence (b : Byte)
  /-- PORT_RESET (R156), taken at its argument byte. -/
  | portReset (b : Byte)
  /-- SET_WAIT_UNIT (R76), taken at its argument byte. -/
  | setWaitUnit (b : Byte)
  /-- SET_MATTN_MASK (R183), taken at its argument byte. -/
  | setMattnMask (b : Byte)
  /-- CLEAR_MATTN (R182), taken at its argument byte. -/
  | clearMattn (b : Byte)
  /-- COMMAND_BYTE (R172): the command byte `b` of a command that takes an argument is received. -/
  | commandByte (b : Byte)
  /-- RESPONSE_PHASE_BYTE (R173): a byte is clocked in the response phase; the byte `b` clocked in is ignored. -/
  | responsePhaseByte (b : Byte)
  deriving DecidableEq, Repr

end Sys2Proof
end

