-- ==== Sys2Proof/Decode.lean ====
section
/-! DEFINITION. Reading words and bytes. No row of spec/opcode_table.json gives bits, so `decodeTableWord` answers none on
every word. The words a board writes (header, handle, kind, position, mode and assignment words, 10.1 and 10.2) and the
command bytes of the link (10.7) are read here, each field once. -/

namespace Sys2Proof

/-- The table gives no row any bits: no word spells a command (INVENTORY.md, "Host interface"). -/
def decodeTableWord (_nbits _w : Nat) : Option Instr := none

/-- The request a code of the table of 10.2 names; 00h, 06h, 15h to 17h, 1Ch to 1Fh, 25h to 27h and 2Ah to 3Fh name none
(R184, 10.2). -/
def ReqCode.ofCode : Nat → Option ReqCode
  | 0x01 => some .attach
  | 0x02 => some .detach
  | 0x03 => some .cancel
  | 0x04 => some .nextNotice
  | 0x05 => some .readLines
  | 0x07 => some .limits
  | 0x08 => some .create
  | 0x09 => some .retire
  | 0x0A => some .adopt
  | 0x0B => some .find
  | 0x0C => some .scan
  | 0x0D => some .read
  | 0x0E => some .watch
  | 0x0F => some .assignLine
  | 0x10 => some .acquire
  | 0x11 => some .acquireWait
  | 0x12 => some .release
  | 0x13 => some .restock
  | 0x14 => some .readHolders
  | 0x18 => some .add
  | 0x19 => some .set
  | 0x1A => some .compareSet
  | 0x1B => some .clearLimit
  | 0x20 => some .setFlags
  | 0x21 => some .clearFlags
  | 0x22 => some .toggleFlags
  | 0x23 => some .claim
  | 0x24 => some .unclaim
  | 0x28 => some .next
  | 0x29 => some .refill
  | _ => none

/-- The code of a request, the table of 10.2. -/
def ReqCode.code : ReqCode → Nat
  | .attach => 0x01
  | .detach => 0x02
  | .cancel => 0x03
  | .nextNotice => 0x04
  | .readLines => 0x05
  | .limits => 0x07
  | .create => 0x08
  | .retire => 0x09
  | .adopt => 0x0A
  | .find => 0x0B
  | .scan => 0x0C
  | .read => 0x0D
  | .watch => 0x0E
  | .assignLine => 0x0F
  | .acquire => 0x10
  | .acquireWait => 0x11
  | .release => 0x12
  | .restock => 0x13
  | .readHolders => 0x14
  | .add => 0x18
  | .set => 0x19
  | .compareSet => 0x1A
  | .clearLimit => 0x1B
  | .setFlags => 0x20
  | .clearFlags => 0x21
  | .toggleFlags => 0x22
  | .claim => 0x23
  | .unclaim => 0x24
  | .next => 0x28
  | .refill => 0x29

/-- The header word of a request (10.2): code in bits 15 to 10, tag in bits 9 to 6, bits 5 to 0 zero. -/
def headerWord (c : ReqCode) (tag : Tag) : Word :=
  BitVec.ofNat 6 c.code ++ tag ++ 0#6

/-- The request a header word's code field names (10.2, R184). -/
def headerCode (w : Word) : Option ReqCode := ReqCode.ofCode (w.extractLsb' 10 6).toNat

/-- The tag of a header word, bits 9 to 6 (10.2). -/
def headerTag (w : Word) : Tag := w.extractLsb' 6 4

/-- The lowest six bits of a header word are all zero (R138). -/
def headerLowZero (w : Word) : Bool := w.extractLsb' 0 6 == 0#6

/-- The slot of a handle word, bits 15 to 8 (10.2). -/
def handleSlot (w : Word) : Slot := (w.extractLsb' 8 8).toFin

/-- The generation of a handle word, bits 7 to 0 (10.2). -/
def handleGen (w : Word) : Gen := w.extractLsb' 0 8

/-- The handle word of a slot and a generation (10.2). -/
def handleWord (i : Slot) (g : Gen) : Word := BitVec.ofFin (w := 8) i ++ g

/-- The kind code of a kind word, bits 3 to 0 (10.2, R185). -/
def kindCode (w : Word) : Nat := (w.extractLsb' 0 4).toNat

/-- The policy code of a kind word, bits 7 to 4 (10.2, R185). -/
def policyCode (w : Word) : Nat := (w.extractLsb' 4 4).toNat

/-- The start slot of a SCAN's position word, bits 8 to 0 (10.2). -/
def positionStart (w : Word) : Nat := (w.extractLsb' 0 9).toNat

/-- The kind filter of a SCAN's position word, bits 12 to 9 (10.2). -/
def positionFilter (w : Word) : Nat := (w.extractLsb' 9 4).toNat

/-- A SCAN's position word is in range (R32): start slot at most 256, filter at most 4, bits 15 to 13 clear. -/
def positionOk (w : Word) : Bool :=
  positionStart w ≤ 256 && positionFilter w ≤ 4 && w.extractLsb' 13 3 == 0#3

/-- The command a byte of the table of 10.7 names. -/
def LinkCommand.ofByte (b : Byte) : Option LinkCommand :=
  match b.toNat with
  | 0x01 => some .status
  | 0x02 => some .counts
  | 0x03 => some .readRecord
  | 0x10 => some .purge
  | 0x11 => some .clearTable
  | 0x20 => some .fence
  | 0x21 => some .unfence
  | 0x22 => some .portReset
  | 0x30 => some .setWaitUnit
  | 0x31 => some .setMattnMask
  | 0x32 => some .clearMattn
  | _ => none

/-- The byte of a command, the table of 10.7. -/
def LinkCommand.byte : LinkCommand → Byte
  | .status => 0x01
  | .counts => 0x02
  | .readRecord => 0x03
  | .purge => 0x10
  | .clearTable => 0x11
  | .fence => 0x20
  | .unfence => 0x21
  | .portReset => 0x22
  | .setWaitUnit => 0x30
  | .setMattnMask => 0x31
  | .clearMattn => 0x32

/-- The argument bytes of a command, 0 or 1 (09 section 9.4, 10.7). -/
def LinkCommand.argCount : LinkCommand → Nat
  | .status | .counts | .clearTable => 0
  | .readRecord | .purge | .fence | .unfence | .portReset | .setWaitUnit | .setMattnMask | .clearMattn => 1

end Sys2Proof
end

