-- ==== Sys2Proof/Config.lean ====
section
/-! DEFINITION. The sizes the spec fixes for the part. The spec leaves no result, flag or register undefined, so there is no
free value here (INVENTORY.md, "What the manual leaves open"). -/

namespace Sys2Proof.Config

/-- The holding entries of the Holding Pool (R43). -/
def holdingEntries : Nat := 384

/-- The waiter entries of the Wait Queue (R62). -/
def waiterEntries : Nat := 24

/-- The words a staging buffer holds (R136). -/
def stagingWords : Nat := 6

/-- The outstanding requests a port may have (R137, sixth check). -/
def outstandingLimit : Nat := 8

/-- The greatest timeout of an ACQUIRE-WAIT, in wait units (R66, fourth check). -/
def maxTimeout : Nat := 4095

/-- The greatest count of a NEXT (R110). -/
def maxNextCount : Nat := 255

/-- The slots of the table as a number: the end of a walk's cursor and the start slot that examines nothing (R160, R33). -/
def slotCount : Nat := 256

end Sys2Proof.Config
end

