-- ==== Sys2Proof/Machine/State.lean ====
section
/-! DEFINITION. The state of the 4682: every piece the spec gives its blocks (INVENTORY.md, "State"), as plain data, and
the state right after device reset. -/

namespace Sys2Proof.Machine

/-- No event of the spec stops the part (INVENTORY.md, "Faults"): there is no fault to raise. -/
inductive Fault where
  deriving DecidableEq, Repr

/-- Reasons for which a command has no meaning in the model. -/
inductive Refusal where
  /-- Raised by exec's arm for a command without a meaning, and by nothing else; safe, since the model stops where the part
  goes on. Every command of this model has its meaning, so nothing raises it. -/
  | notModelled (mnemonic : String)
  deriving DecidableEq, Repr

/-! ### The Record Table (01) -/

/-- The policy of a COUNTER (R87). -/
inductive Policy where
  | reject | clip
  deriving DecidableEq, Repr

/-- A watch mode (R116). -/
inductive WatchMode where
  | off | change | alert | ended
  deriving DecidableEq, Repr

/-- The sense of a line assignment (R125). -/
inductive Sense where
  | normal | inverted
  deriving DecidableEq, Repr

/-- A line assignment other than none (R125). -/
structure LineAssignment where
  line : LineNo
  sense : Sense
  deriving DecidableEq, Repr

/-- The held retire field of a header (R9). -/
inductive HeldRetire where
  | absent
  | pending (port : Port) (tag : Tag)
  | discarded
  deriving DecidableEq, Repr

/-- The state of a record in a slot that is not EMPTY (R1). -/
inductive RecordState where
  | live | closing
  deriving DecidableEq, Repr

/-- An entry of a holding list: a port and its units (R41). -/
structure Holding where
  port : Port
  units : Nat
  deriving DecidableEq, Repr

/-- A waiter (R62). The record it waits on is the one whose queue holds it. -/
structure Waiter where
  port : Port
  tag : Tag
  units : Nat
  /-- Wait units left before expiry; none for a waiter queued with timeout 0. -/
  timeout : Option Nat
  /-- The waiter carries a reserved holding entry. -/
  reserved : Bool
  deriving DecidableEq, Repr

/-- The body of a POOL record (R39). -/
structure Pool where
  stock : Nat
  level : Nat
  lowMark : Nat
  holdings : List Holding
  waiters : List Waiter
  deriving DecidableEq, Repr

/-- The body of a COUNTER record (R87). -/
structure Counter where
  value : Int
  floor : Int
  ceiling : Int
  policy : Policy
  limitFlag : Bool
  lowMark : Int
  highMark : Int
  deriving DecidableEq, Repr

/-- The body of a FLAGS record (R99); bit n of `flags` is flag n. -/
structure FlagSet where
  flags : Word
  claimants : Vector (Option Port) 16
  alertMask : Word
  deriving DecidableEq, Repr

/-- The body of a SEQUENCE record (R109). -/
structure Sequence where
  next : Word
  step : Int
  remaining : Nat
  lowMark : Nat
  deriving DecidableEq, Repr

/-- The kind of a record (R6). -/
inductive Kind where
  | pool | counter | flags | sequence
  deriving DecidableEq, Repr

/-- A record's body. Its kind is the kind of its body (R6). -/
inductive Body where
  | pool (b : Pool)
  | counter (b : Counter)
  | flags (b : FlagSet)
  | sequence (b : Sequence)
  deriving DecidableEq, Repr

/-- A record: its header (R5 to R9) and its body. -/
structure Record where
  key : Word
  state : RecordState
  owner : Option Port
  line : Option LineAssignment
  watch : Vector WatchMode 4
  held : HeldRetire
  body : Body
  deriving DecidableEq, Repr

/-- A slot: its generation, and the record of a LIVE or CLOSING slot; an EMPTY slot has none (R1). -/
structure SlotState where
  gen : Gen
  record : Option Record
  deriving DecidableEq, Repr

/-! ### The Requester Ports (07) -/

/-- The state of a port (R135). -/
inductive PortMode where
  | offline | online | fenced | draining
  deriving DecidableEq, Repr

/-- A result code (10.3). -/
inductive ResultCode where
  | done | short | timeout | cancelled | closed | stale | wrongKind | notOwner
  | notHeld | duplicate | tableFull | noHoldingEntry | noWaiter | closing | limit | exhausted
  | noFreeFlag | notFound | badRequest | mismatch | purged | owned | none
  deriving DecidableEq, Repr

/-- A refusal reason (R137, 10.5). -/
inductive RefusalReason where
  | notReady | fault | offline | fenced | draining | malformed | tagInUse | full
  deriving DecidableEq, Repr

/-- An accepted request (R140): code, tag and the words staged with it. -/
structure Request where
  code : ReqCode
  tag : Tag
  words : List Word
  deriving DecidableEq, Repr

/-- A response: the tag and result of its header, and its data words (07 section 7.7). -/
structure Response where
  tag : Tag
  result : ResultCode
  data : List Word
  deriving DecidableEq, Repr

/-- A requester port (07, the table at the head of the chapter). -/
structure PortState where
  mode : PortMode
  staging : List Word
  overflow : Bool
  intake : List Request
  outstanding : List Tag
  responses : List Response
  readPos : Nat
  refusalFlag : Bool
  refusalReason : Option RefusalReason
  refusedTag : Tag
  responseEnable : Bool
  noticeEnable : Bool
  /-- The word pins Dn15 to Dn0 carried at the last read of RESPONSE (model's own latch, notes/assumptions/9.md). -/
  dataOut : Word
  deriving DecidableEq, Repr

/-! ### The Intake Arbiter, the Wait Clock, the Notice Unit (07, 04, 06) -/

/-- A claimant at the Intake Arbiter (R150). -/
inductive Claimant where
  | port (p : Port)
  | walker
  deriving DecidableEq, Repr

/-- The unit of the Wait Clock (R75). -/
inductive WaitUnit where
  | us100 | ms1 | ms10
  deriving DecidableEq, Repr

/-- The reasons of a change report or a changed-set entry (R117). -/
structure Reasons where
  body : Bool
  alertOn : Bool
  alertOff : Bool
  ended : Bool
  deriving DecidableEq, Repr

/-- An entry of a changed set (R119, R120). -/
structure ChangedEntry where
  slot : Slot
  gen : Gen
  reasons : Reasons
  deriving DecidableEq, Repr

/-! ### The Maintenance Link (09) -/

/-- The device condition (R168). -/
inductive Condition where
  | checking | ready | failed
  deriving DecidableEq, Repr

/-- The failed-area set (R169). -/
structure FailedAreas where
  slot : Bool
  holding : Bool
  waiter : Bool
  deriving DecidableEq, Repr

/-- A status code of the link (10.7). -/
inductive LinkStatus where
  | ok | busy | range | notReady | fault
  deriving DecidableEq, Repr

/-- The frame state (09, the table at the head of the chapter). In the argument phase no command has more than one argument
byte, so the bytes received so far are the command byte alone. In the response phase the status is none while the work of a
PURGE or a CLEAR-TABLE is to come (R173), and `pos` counts the bytes of the response clocked out. -/
inductive Frame where
  | idle
  | command
  | argument (c : LinkCommand)
  | response (status : Option LinkStatus) (data : List Byte) (pos : Nat)
  deriving DecidableEq, Repr

/-- The state of the part and the queue of the commands that wait for it. -/
structure State where
  /-- The four requester ports (07). -/
  ports : Vector PortState 4
  /-- The rotation position of the Intake Arbiter (R150). -/
  rotation : Claimant
  /-- The 256 slots of the Record Table (R1). -/
  slots : Vector SlotState 256
  /-- The free holding entries (R43). -/
  freeHoldings : Nat
  /-- The free waiter entries (R62). -/
  freeWaiters : Nat
  /-- The expiry events handed to the Record Table and not yet taken (R78). -/
  expiryEvents : List (Slot × Gen)
  /-- The wait unit in force (R75). -/
  waitUnit : WaitUnit
  /-- The position within the current unit, in periods of REFCLK (04 section 4.5). -/
  unitPos : Nat
  /-- The changed set of each port, in slot order (R119). -/
  changed : Vector (List ChangedEntry) 4
  /-- The contribution count of each line (R126). -/
  lineCounts : Vector Nat 8
  /-- The walk cursor of each port (R160). -/
  cursors : Vector Nat 4
  /-- The service position of the Reclaim Walker (R160). -/
  servicePos : Port
  /-- The device condition (R168). -/
  condition : Condition
  /-- The failed-area set (R169). -/
  failedAreas : FailedAreas
  /-- The frame state (R172). -/
  frame : Frame
  /-- Clear in progress: the next slot to be cleared, or none (R179). -/
  clear : Option Slot
  /-- The slot of a PURGE that has been taken and whose event is still to come, or none (R178). -/
  purgeSlot : Option Slot
  /-- The MATTN reasons, laid out as the reason byte of 10.7 (R182). -/
  mattnReasons : Byte
  /-- The MATTN enable mask, laid out alike (R183). -/
  mattnMask : Byte
  /-- The input RESET is asserted (R168). -/
  resetAsserted : Bool
  /-- The link's chip select SSEL is asserted (R172). -/
  chipSelect : Bool
  /-- The byte last clocked out on SDO in the present frame; none while SDO is high-impedance or no byte has been clocked. -/
  sdo : Option Byte
  /-- The commands that wait, first in first out. -/
  pending : List Instr
  deriving DecidableEq, Repr

/-- A port after device reset (R135). -/
def PortState.reset : PortState where
  mode := .offline
  staging := []
  overflow := false
  intake := []
  outstanding := []
  responses := []
  readPos := 0
  refusalFlag := false
  refusalReason := none
  refusedTag := 0
  responseEnable := false
  noticeEnable := false
  dataOut := 0

/-- A slot after device reset (R1). -/
def SlotState.reset : SlotState := ⟨0, none⟩

/-- The state right after device reset, with RESET deasserted and the self-check pass begun (R168; notes/assumptions/3.md). -/
def State.reset : State where
  ports := Vector.replicate 4 PortState.reset
  rotation := .port 0
  slots := Vector.replicate 256 SlotState.reset
  freeHoldings := Config.holdingEntries
  freeWaiters := Config.waiterEntries
  expiryEvents := []
  waitUnit := .ms1
  unitPos := 0
  changed := Vector.replicate 4 []
  lineCounts := Vector.replicate 8 0
  cursors := Vector.replicate 4 0
  servicePos := 0
  condition := .checking
  failedAreas := ⟨false, false, false⟩
  frame := .idle
  clear := none
  purgeSlot := none
  mattnReasons := 0
  mattnMask := 0
  resetAsserted := false
  chipSelect := false
  sdo := none
  pending := []

end Sys2Proof.Machine
end

