-- ==== Sys2Proof/Machine/Flags.lean ====
section
/-! DEFINITION. The conditions the part computes from its state: kinds, commitments, alert conditions, contributions to
alert lines, the reasons a watch mode keeps, and the attention outputs. -/

namespace Sys2Proof.Machine

/-! ### Sets of flags as words -/

/-- The number of `n` bits whose bit i is `f i`. -/
def bitsOf (f : Nat → Bool) : (n : Nat) → BitVec n
  | 0 => 0#0
  | n + 1 => BitVec.cons (f n) (bitsOf f n)

/-- The claimant of flag `n`, none for a number that names no flag (R99). -/
def FlagSet.claimant (b : FlagSet) (n : Nat) : Option Port := b.claimants[n]?.join

/-- The claimed flags, flag n in bit n (R22, 10.3). -/
def FlagSet.claimed (b : FlagSet) : Word := bitsOf (fun n => (b.claimant n).isSome) 16

/-- The flags claimed by port `p` (R22). -/
def FlagSet.claimedBy (b : FlagSet) (p : Port) : Word := bitsOf (fun n => b.claimant n == some p) 16

/-! ### Holdings and waiters of a POOL -/

/-- The units port `p` holds on the record, 0 with no listed entry (R51, R60). -/
def Pool.unitsOf (b : Pool) (p : Port) : Nat :=
  match b.holdings.find? (fun h => h.port == p) with
  | some h => h.units
  | none => 0

/-- Port `p` has a listed entry on the record (R41). -/
def Pool.lists (b : Pool) (p : Port) : Bool := b.holdings.any (fun h => h.port == p)

/-- The units of all entries of the holding list (R40). -/
def Pool.heldUnits (b : Pool) : Nat := (b.holdings.map (·.units)).sum

/-- The holding entries the record uses: the listed ones and those its waiters reserve (R43). -/
def Pool.entriesUsed (b : Pool) : Nat := b.holdings.length + b.waiters.countP (·.reserved)

/-! ### Kinds and commitments -/

/-- The kind of a record is that of its body (R6). -/
def Body.kind : Body → Kind
  | .pool _ => .pool
  | .counter _ => .counter
  | .flags _ => .flags
  | .sequence _ => .sequence

/-- The kind of a record (R6). -/
def Record.kind (r : Record) : Kind := r.body.kind

/-- The body has a commitment: a holding list entry or a claimed flag (R6). -/
def Body.committed : Body → Bool
  | .pool b => !b.holdings.isEmpty
  | .flags b => b.claimants.toList.any (·.isSome)
  | .counter _ | .sequence _ => false

/-- The record has a commitment (R6). -/
def Record.committed (r : Record) : Bool := r.body.committed

/-- The holding entries a body uses (R43). -/
def Body.entriesUsed : Body → Nat
  | .pool b => b.entriesUsed
  | .counter _ | .flags _ | .sequence _ => 0

/-- The waiters of a body (R64). -/
def Body.waiters : Body → List Waiter
  | .pool b => b.waiters
  | .counter _ | .flags _ | .sequence _ => []

/-- The holding entries the record of a slot uses; an EMPTY slot uses none (R43). -/
def SlotState.entriesUsed (x : SlotState) : Nat :=
  match x.record with
  | some r => r.body.entriesUsed
  | none => 0

/-- The waiters on the record of a slot (R64). -/
def SlotState.waiters (x : SlotState) : List Waiter :=
  match x.record with
  | some r => r.body.waiters
  | none => []

/-- The body as the change reports of R11 compare it: the waiter queue of a POOL is no part of it (R39). -/
def Body.reported : Body → Body
  | .pool b => .pool { b with waiters := [] }
  | .counter b => .counter b
  | .flags b => .flags b
  | .sequence b => .sequence b

/-! ### Alert conditions -/

/-- A POOL is in alert while its level is less than its low mark (R42). -/
def Pool.inAlert (b : Pool) : Bool := b.level < b.lowMark

/-- A COUNTER is in alert while its value is below its low mark or above its high mark (R97). -/
def Counter.inAlert (b : Counter) : Bool := b.value < b.lowMark || b.highMark < b.value

/-- A FLAGS record is in alert while every flag its alert mask selects is set; never with a mask of 0000h (R106). -/
def FlagSet.inAlert (b : FlagSet) : Bool := b.alertMask != 0 && b.flags &&& b.alertMask == b.alertMask

/-- A SEQUENCE is in alert while remaining is less than its low mark (R114). -/
def Sequence.inAlert (b : Sequence) : Bool := b.remaining < b.lowMark

/-- The alert condition of a body, by its kind. -/
def Body.inAlert : Body → Bool
  | .pool b => b.inAlert
  | .counter b => b.inAlert
  | .flags b => b.inAlert
  | .sequence b => b.inAlert

/-- The record is in alert; a CLOSING record is evaluated as a LIVE one (R11). -/
def Record.inAlert (r : Record) : Bool := r.body.inAlert

/-- The contribution of a record with this assignment and alert condition (R125, the table of 06 section 6.6). -/
def contributes (line : Option LineAssignment) (alert : Bool) : Bool :=
  match line with
  | none => false
  | some ⟨_, .normal⟩ => alert
  | some ⟨_, .inverted⟩ => !alert

/-! ### Reasons -/

/-- No reason at all. -/
def Reasons.empty : Reasons := ⟨false, false, false, false⟩

/-- The reasons of two events together (R120). -/
def Reasons.union (a b : Reasons) : Reasons :=
  ⟨a.body || b.body, a.alertOn || b.alertOn, a.alertOff || b.alertOff, a.ended || b.ended⟩

/-- The reasons a watch mode reports, the table of 06 section 6.1 (R118). -/
def Reasons.keptBy (r : Reasons) : WatchMode → Reasons
  | .off => .empty
  | .change => r
  | .alert => { r with body := false }
  | .ended => ⟨false, false, false, r.ended⟩

/-- The reasons of the report of an event that takes a record from `r0` to `r1` and leaves its slot full (R117). -/
def changeReasons (r0 r1 : Record) : Reasons where
  body := r0.body.reported != r1.body.reported || r0.state != r1.state
  alertOn := !r0.inAlert && r1.inAlert
  alertOff := r0.inAlert && !r1.inAlert
  ended := false

/-- The reasons of the report of an event that takes a record from `r0` to `r1` and empties its slot (R117). -/
def endReasons (r0 r1 : Record) : Reasons where
  body := r0.body.reported != r1.body.reported
  alertOn := false
  alertOff := false
  ended := true

/-! ### Outputs -/

/-- The response condition of port `p` (R148). -/
def State.responseCondition (s : State) (p : Port) : Bool :=
  !s.ports[p.val].responses.isEmpty && s.ports[p.val].responseEnable

/-- The notice condition of port `p` (R124). -/
def State.noticeCondition (s : State) (p : Port) : Bool :=
  !s.changed[p.val].isEmpty && s.ports[p.val].noticeEnable

/-- ATTNn is asserted: one of the two conditions holds (R124, R148). -/
def State.attnAsserted (s : State) (p : Port) : Bool := s.responseCondition p || s.noticeCondition p

/-- MATTN is asserted: a reason is set whose bit in the enable mask is set (R183). -/
def State.mattnAsserted (s : State) : Bool := s.mattnReasons &&& s.mattnMask != 0

/-- The 4682 drives ALx low: the count of line x is above 0 (R126). -/
def State.lineDrivenLow (s : State) (x : LineNo) : Bool := 0 < s.lineCounts[x.val]

end Sys2Proof.Machine
end

