-- ==== Sys2Proof/Machine/Operands.lean ====
section
/-! DEFINITION. The operand forms of the requests and the words and bytes the part gives out: mode and assignment words,
responses (10.3), READ answers (10.4), the words of the port window (10.1, 10.5, 10.6) and the bytes of the maintenance link
(10.7). -/

namespace Sys2Proof.Machine

/-! ### Operand forms -/

/-- A mode word (10.2, R185): OFF, CHANGE, ALERT, END, or none of them. -/
def modeOfWord (w : Word) : Option WatchMode :=
  match w.toNat with
  | 0 => some .off
  | 1 => some .change
  | 2 => some .alert
  | 3 => some .ended
  | _ => none

/-- An assignment word (10.2, R185): 0000h is no line, another valid word has bit 8 set, the line in bits 2 to 0, the sense
in bit 4 and every other bit clear; the outer none is a word that R24 answers BAD-REQUEST. -/
def assignmentOfWord (w : Word) : Option (Option LineAssignment) :=
  if w = 0 then some none
  else if w.getLsbD 8 && w &&& 0xFEE8#16 == 0 then
    some (some ⟨(w.extractLsb' 0 3).toFin, if w.getLsbD 4 then .inverted else .normal⟩)
  else none

/-- The kind a code names: 1 POOL, 2 COUNTER, 3 FLAGS, 4 SEQUENCE (01 section 1.5). -/
def kindOfCode : Nat → Option Kind
  | 1 => some .pool
  | 2 => some .counter
  | 3 => some .flags
  | 4 => some .sequence
  | _ => none

/-- The policy a code names: 0 REJECT, 1 CLIP (01 section 1.5). -/
def policyOfCode : Nat → Option Policy
  | 0 => some .reject
  | 1 => some .clip
  | _ => none

/-- The kind code of a kind (01 section 1.5). -/
def Kind.code : Kind → Nat
  | .pool => 1
  | .counter => 2
  | .flags => 3
  | .sequence => 4

/-- The staged words a CREATE needs, by the kind code of its first word (R13): 4, 5, 4 or 6 for a kind, 2 to 6 for a code that
names none; with no word staged it is malformed (R138). -/
def createCountOk (words : List Word) : Bool :=
  match words with
  | [] => false
  | w :: _ =>
    match kindOfCode (kindCode w) with
    | some .pool => words.length == 4
    | some .counter => words.length == 5
    | some .flags => words.length == 4
    | some .sequence => words.length == 6
    | none => 2 ≤ words.length && words.length ≤ 6

/-- The staged word count is one the request requires, the table of R138. -/
def wordCountOk (c : ReqCode) (words : List Word) : Bool :=
  match c with
  | .attach | .detach | .nextNotice | .readLines => words.length == 0
  | .cancel | .retire | .adopt | .find | .read | .readHolders | .clearLimit => words.length == 1
  | .watch | .assignLine | .acquire | .release | .restock | .add | .set | .setFlags | .clearFlags | .toggleFlags
  | .claim | .unclaim | .next | .refill => words.length == 2
  | .scan | .acquireWait | .compareSet => words.length == 3
  | .limits => words.length == 2 || words.length == 5
  | .create => createCountOk words

/-! ### Responses (10.3) -/

/-- A number as a word. -/
def natWord (n : Nat) : Word := BitVec.ofNat 16 n

/-- A signed number as a word, in two's complement (00 section 4). -/
def intWord (n : Int) : Word := BitVec.ofInt 16 n

/-- A result code (10.3). -/
def ResultCode.code : ResultCode → Nat
  | .done => 0x00
  | .short => 0x01
  | .timeout => 0x02
  | .cancelled => 0x03
  | .closed => 0x04
  | .stale => 0x05
  | .wrongKind => 0x06
  | .notOwner => 0x07
  | .notHeld => 0x08
  | .duplicate => 0x09
  | .tableFull => 0x0A
  | .noHoldingEntry => 0x0B
  | .noWaiter => 0x0C
  | .closing => 0x0D
  | .limit => 0x0E
  | .exhausted => 0x0F
  | .noFreeFlag => 0x10
  | .notFound => 0x11
  | .badRequest => 0x12
  | .mismatch => 0x13
  | .purged => 0x14
  | .owned => 0x15
  | .none => 0x16

/-- A response header: valid in bit 15, tag in bits 14 to 11, result in bits 10 to 5, bit 4 zero, count in bits 3 to 0. -/
def responseHeader (valid : Bool) (tag : Tag) (result : ResultCode) (count : Nat) : Word :=
  BitVec.ofBool valid ++ tag ++ BitVec.ofNat 6 result.code ++ 0#1 ++ BitVec.ofNat 4 count

/-- The empty header word, 02C0h (R145, 10.3). -/
def emptyHeader : Word := responseHeader false 0 .none 0

/-- The words of a response: its header, then its data words (R144). -/
def Response.toWords (r : Response) : List Word := responseHeader true r.tag r.result r.data.length :: r.data

/-- The outcome class of a value in a counter status word: 0 ZERO, 1 NEGATIVE, 2 POSITIVE (R88, 10.3). -/
def outcomeClass (v : Int) : Nat := if v = 0 then 0 else if v < 0 then 1 else 2

/-- The counter status word (10.3): policy in bit 0, limit flag in bit 1, outcome class in bits 3 and 2, CLIPPED in bit 4. -/
def Counter.statusWord (c : Counter) (clipped : Bool) : Word :=
  0#11 ++ BitVec.ofBool clipped ++ BitVec.ofNat 2 (outcomeClass c.value) ++ BitVec.ofBool c.limitFlag ++
    BitVec.ofBool (c.policy == .clip)

/-- The value word and the counter status word of a COUNTER answer (R88). -/
def Counter.answerWords (c : Counter) (clipped : Bool) : List Word := [intWord c.value, c.statusWord clipped]

/-- The reasons word of a NEXT-NOTICE (10.3): BODY in bit 0, ALERT-ON 1, ALERT-OFF 2, ENDED 3. -/
def Reasons.toWord (r : Reasons) : Word :=
  0#12 ++ BitVec.ofBool r.ended ++ BitVec.ofBool r.alertOff ++ BitVec.ofBool r.alertOn ++ BitVec.ofBool r.body

/-- A line word of READ-LINES (10.3): bit 15 while the line is driven low, the count in bits 8 to 0. 10.3 does not say what
bits 14 to 9 are; that they are 0 is the model's choice (DESIGN CHOICE, notes/assumptions/29.md). -/
def lineWord (count : Nat) : Word := BitVec.ofBool (0 < count) ++ 0#6 ++ BitVec.ofNat 9 count

/-! ### READ answers (10.4) -/

/-- A watch mode as the mode word codes it (10.2). -/
def WatchMode.code : WatchMode → Nat
  | .off => 0
  | .change => 1
  | .alert => 2
  | .ended => 3

/-- The held retire field: 0 absent, 1 pending, 2 discarded (10.4). -/
def HeldRetire.code : HeldRetire → Nat
  | .absent => 0
  | .pending _ _ => 1
  | .discarded => 2

/-- The descriptor word of READ, for the reading port `p` (10.4). -/
def Record.descriptor (r : Record) (p : Port) : Word :=
  BitVec.ofNat 2 (r.kind.code - 1) ++ BitVec.ofBool (r.state == .closing) ++
  BitVec.ofBool r.owner.isSome ++ BitVec.ofNat 2 (r.owner.elim 0 (·.val)) ++
  BitVec.ofBool r.line.isSome ++ BitVec.ofNat 3 (r.line.elim 0 (·.line.val)) ++
  BitVec.ofBool (r.line.elim false (·.sense == .inverted)) ++ BitVec.ofBool r.inAlert ++
  BitVec.ofNat 2 r.held.code ++ BitVec.ofNat 2 r.watch[p.val].code

/-- The body words of a READ answer, for the reading port `p` (R22). -/
def Body.readWords (b : Body) (p : Port) : List Word :=
  match b with
  | .pool b => [natWord b.stock, natWord b.level, natWord b.lowMark, natWord (b.unitsOf p)]
  | .counter b => [intWord b.value, intWord b.floor, intWord b.ceiling, intWord b.lowMark, intWord b.highMark, b.statusWord false]
  | .flags b => [b.flags, b.claimed, b.claimedBy p, b.alertMask]
  | .sequence b => [b.next, intWord b.step, natWord b.remaining, natWord b.lowMark]

/-- The data words of a READ answer (R22). -/
def readAnswer (handle : Word) (r : Record) (p : Port) : List Word :=
  [handle, r.key, r.descriptor p] ++ r.body.readWords p

/-! ### The port window (10.1, 10.5, 10.6) -/

/-- A refusal reason in the refusal byte (10.5); FAULT is shown by the port code instead (R186). -/
def refusalCode : Option RefusalReason → Nat
  | none => 0
  | some .notReady => 1
  | some .offline => 2
  | some .fenced => 3
  | some .draining => 4
  | some .malformed => 5
  | some .tagInUse => 6
  | some .full => 7
  | some .fault => 0

/-- The queue number of a port (R186): 9 × o + i while no response is available, 9 × i + o while one is. -/
def PortState.queueNumber (q : PortState) : Nat :=
  if q.responses.isEmpty then 9 * q.outstanding.length + q.intake.length
  else 9 * q.intake.length + q.outstanding.length

/-- The port code of the status word (R186). -/
def PortState.portCode (q : PortState) : Nat :=
  match q.mode with
  | .online => q.queueNumber
  | .fenced => 81 + q.queueNumber
  | .offline => if q.refusalReason = some .fault then 164 else 162
  | .draining => 163

/-- The refusal byte: flag in bit 7, reason code in bits 6 to 4, last refused tag in bits 3 to 0 (10.6). -/
def PortState.refusalByte (q : PortState) : Byte :=
  BitVec.ofBool q.refusalFlag ++ BitVec.ofNat 3 (refusalCode q.refusalReason) ++ q.refusedTag

/-- The status word: port code in bits 15 to 8, refusal byte in bits 7 to 0 (10.6, R146). -/
def PortState.statusWord (q : PortState) : Word := BitVec.ofNat 8 q.portCode ++ q.refusalByte

/-- What a read of STAGE returns: the staged word count, or 7 with the overflow mark set (R136). -/
def PortState.stageWord (q : PortState) : Word := if q.overflow then 7 else natWord q.staging.length

/-- What a read of CONTROL returns: the two enables, every other bit 0 (R147, R184). -/
def PortState.controlWord (q : PortState) : Word := 0#14 ++ BitVec.ofBool q.noticeEnable ++ BitVec.ofBool q.responseEnable

/-- What the next read of RESPONSE returns: the word of the oldest response at the read position, or the empty header word
(R144, R145). -/
def PortState.responseWord (q : PortState) : Word :=
  match q.responses with
  | [] => emptyHeader
  | r :: _ => r.toWords.getD q.readPos 0

/-- What a read at an offset of the port window returns, as the port stands (R134, 10.1). -/
def PortState.windowWord (q : PortState) (offset : BitVec 3) : Word :=
  match offset.toNat with
  | 0 => q.stageWord
  | 2 => q.responseWord
  | 3 => q.statusWord
  | 4 => q.controlWord
  | _ => 0

/-- The outstanding count, the intake count and whether a response is available, as a board decodes a queue number
(R186). -/
def decodeQueueNumber (c : Nat) : Nat × Nat × Bool :=
  if c % 9 ≤ c / 9 then (c / 9, c % 9, false) else (c % 9, c / 9, true)

/-! ### The maintenance link (10.7) -/

/-- The pending byte (10.7). -/
def pendingByte : Byte := 0x5A

/-- The idle byte (10.7). -/
def idleByte : Byte := 0xFF

/-- The status codes of the link (10.7). -/
def LinkStatus.byte : LinkStatus → Byte
  | .ok => 0x00
  | .busy => 0x01
  | .range => 0x02
  | .notReady => 0x03
  | .fault => 0x04

/-- A word as two bytes, high byte first (10, introduction). -/
def twoBytes (w : Word) : List Byte := [w.extractLsb' 8 8, w.extractLsb' 0 8]

/-- The condition in byte 1 of the STATUS data (10.7). -/
def Condition.code : Condition → Nat
  | .checking => 0
  | .ready => 1
  | .failed => 2

/-- A port state in byte 2 of the STATUS data (10.7). -/
def PortMode.code : PortMode → Nat
  | .offline => 0
  | .online => 1
  | .fenced => 2
  | .draining => 3

/-- The STATUS data, four bytes (10.7, R175). Bit 7 of the first is 0 by the model's choice (notes/assumptions/29.md). -/
def State.statusBytes (s : State) : List Byte :=
  [ 0#1 ++ BitVec.ofBool s.mattnAsserted ++ BitVec.ofBool s.clear.isSome ++ BitVec.ofBool s.failedAreas.waiter ++
      BitVec.ofBool s.failedAreas.holding ++ BitVec.ofBool s.failedAreas.slot ++ BitVec.ofNat 2 s.condition.code,
    BitVec.ofNat 2 s.ports[3].mode.code ++ BitVec.ofNat 2 s.ports[2].mode.code ++
      BitVec.ofNat 2 s.ports[1].mode.code ++ BitVec.ofNat 2 s.ports[0].mode.code,
    s.mattnReasons,
    s.mattnMask ]

/-- The code of a wait unit (R76). -/
def WaitUnit.code : WaitUnit → Nat
  | .us100 => 0
  | .ms1 => 1
  | .ms10 => 2

/-- The wait unit a code names (R76). -/
def WaitUnit.ofCode : Nat → Option WaitUnit
  | 0 => some .us100
  | 1 => some .ms1
  | 2 => some .ms10
  | _ => none

/-- The number of slots whose record is in the given state (R1, R176). -/
def State.recordCount (s : State) (st : RecordState) : Nat :=
  s.slots.toList.countP (fun x => x.record.any (fun r => r.state == st))

/-- The COUNTS data, eight bytes (10.7, R176). -/
def State.countsBytes (s : State) : List Byte :=
  twoBytes (natWord s.freeHoldings) ++ [BitVec.ofNat 8 s.freeWaiters] ++ twoBytes (natWord (s.recordCount .live)) ++
    twoBytes (natWord (s.recordCount .closing)) ++ [BitVec.ofNat 8 s.waitUnit.code]

/-- A port or absent as a byte of the raw slot image: 0 to 3, or FFh (10.7). -/
def portByte : Option Port → Byte
  | some p => BitVec.ofNat 8 p.val
  | none => 0xFF

/-- A port and a tag as a byte: port in bits 5 and 4, tag in bits 3 to 0 (10.7); bits 7 and 6 are 0 by the model's choice
(notes/assumptions/29.md). -/
def portTagByte (p : Port) (t : Tag) : Byte := BitVec.ofNat 4 p.val ++ t

/-- The line byte of the image: FFh for none, otherwise line in bits 2 to 0 and sense in bit 4 (10.7); its other bits are 0 by
the model's choice (notes/assumptions/29.md). -/
def lineByte : Option LineAssignment → Byte
  | none => 0xFF
  | some a => BitVec.ofNat 3 0 ++ BitVec.ofBool (a.sense == .inverted) ++ 0#1 ++ BitVec.ofNat 3 a.line.val

/-- The watch byte of the image: two bits per port, P0 in bits 1 and 0 (10.7). -/
def watchByte (w : Vector WatchMode 4) : Byte :=
  BitVec.ofNat 2 w[3].code ++ BitVec.ofNat 2 w[2].code ++ BitVec.ofNat 2 w[1].code ++ BitVec.ofNat 2 w[0].code

/-- The held-retire bytes of the image: the status, then the port and tag while pending, else 00h (10.7). -/
def heldBytes : HeldRetire → List Byte
  | .absent => [0, 0]
  | .pending p t => [1, portTagByte p t]
  | .discarded => [2, 0]

/-- A holding list entry in the image: port, units (10.7). -/
def Holding.bytes (h : Holding) : List Byte := BitVec.ofNat 8 h.port.val :: twoBytes (natWord h.units)

/-- A waiter in the image: port and tag, units, timeout remaining (FFFFh for none), reservation (10.7). -/
def Waiter.bytes (w : Waiter) : List Byte :=
  portTagByte w.port w.tag :: (twoBytes (natWord w.units) ++ twoBytes (w.timeout.elim 0xFFFF natWord) ++
    [if w.reserved then 1 else 0])

/-- The body bytes of the image (10.7, R177). Bits 7 to 2 of a COUNTER's last byte are 0 by the model's choice
(notes/assumptions/29.md). -/
def Body.imageBytes : Body → List Byte
  | .pool b =>
    twoBytes (natWord b.stock) ++ twoBytes (natWord b.level) ++ twoBytes (natWord b.lowMark) ++
    [BitVec.ofNat 8 b.holdings.length] ++ b.holdings.flatMap Holding.bytes ++
    [BitVec.ofNat 8 b.waiters.length] ++ b.waiters.flatMap Waiter.bytes
  | .counter b =>
    twoBytes (intWord b.value) ++ twoBytes (intWord b.floor) ++ twoBytes (intWord b.ceiling) ++
    twoBytes (intWord b.lowMark) ++ twoBytes (intWord b.highMark) ++
    [0#6 ++ BitVec.ofBool b.limitFlag ++ BitVec.ofBool (b.policy == .clip)]
  | .flags b =>
    twoBytes b.flags ++ b.claimants.toList.map portByte ++ twoBytes b.alertMask
  | .sequence b =>
    twoBytes b.next ++ [BitVec.ofInt 8 b.step] ++ twoBytes (natWord b.remaining) ++ twoBytes (natWord b.lowMark)

/-- The raw image of a slot (10.7, R177). -/
def SlotState.image (x : SlotState) : List Byte :=
  match x.record with
  | none => [0, x.gen]
  | some r =>
    [if r.state = .live then 1 else 2, x.gen] ++ twoBytes r.key ++
    [BitVec.ofNat 8 r.kind.code, portByte r.owner, lineByte r.line, watchByte r.watch] ++ heldBytes r.held ++
    r.body.imageBytes

/-- The READ-RECORD data: the length byte, then the image (10.7). -/
def SlotState.recordBytes (x : SlotState) : List Byte := BitVec.ofNat 8 x.image.length :: x.image

/-- The byte a response clocks out at a position: the pending byte while the status is to come, then the status, the data
and the idle byte (R173). -/
def responseByte (status : Option LinkStatus) (data : List Byte) (pos : Nat) : Byte :=
  match status with
  | none => pendingByte
  | some st => (st.byte :: data).getD pos idleByte

end Sys2Proof.Machine
end

