-- ==== Sys2Proof/Machine/Ops.lean ====
section
/-! DEFINITION. The shared operations: access to ports and slots, the placing of responses, the change report with what the
Notice Unit and the Alert Line Unit do on it, the emptying of a slot, the grant cascade, and the turn of the Intake
Arbiter. -/

namespace Sys2Proof.Machine

/-! ### Ports and slots -/

/-- Port `p` of the state. -/
def State.port (s : State) (p : Port) : PortState := s.ports[p.val]

/-- Port `p` changed by `f`, all else kept. -/
def State.modifyPort (p : Port) (f : PortState → PortState) (s : State) : State :=
  { s with ports := s.ports.set p.val (f (s.port p)) }

/-- Slot `i` of the state. -/
def State.slot (s : State) (i : Slot) : SlotState := s.slots[i.val]

/-- All slots in ascending order. -/
def allSlots : List Slot := List.finRange 256

/-- All ports in ascending order. -/
def allPorts : List Port := [0, 1, 2, 3]

/-- Slot `i` written whole. The Holding Pool and the Wait Queue gain the entries that the old record used and the new one
does not, and give those that the new one uses and the old one did not (R43, R44, R62; notes/assumptions/22.md). -/
def State.writeSlot (i : Slot) (x : SlotState) (s : State) : State :=
  { s with
    slots := s.slots.set i.val x
    freeHoldings := s.freeHoldings + (s.slot i).entriesUsed - x.entriesUsed
    freeWaiters := s.freeWaiters + (s.slot i).waiters.length - x.waiters.length }

/-- The record of a slot written; its generation is kept. -/
def State.writeRecord (i : Slot) (r : Record) (s : State) : State :=
  s.writeSlot i ⟨(s.slot i).gen, some r⟩

/-- A waiter stands on some record (R76). -/
def State.waiterExists (s : State) : Bool := s.slots.toList.any (fun x => !x.waiters.isEmpty)

/-! ### Responses -/

/-- A response joins the tail of port `p`'s response queue; for a DRAINING port it is not placed (R12, R143). -/
def State.place (p : Port) (r : Response) (s : State) : State :=
  if (s.port p).mode = .draining then s
  else s.modifyPort p fun q => { q with responses := q.responses ++ [r] }

/-- Responses placed one after another (R12). -/
def State.placeAll : List (Port × Response) → State → State
  | [], s => s
  | (p, r) :: rest, s => State.placeAll rest (s.place p r)

/-! ### The Notice Unit (06) -/

/-- Reasons recorded on a slot in a changed set, which is kept in slot order with one entry for a slot (R119, R120): they
join the entry's reasons and the generation becomes that of the event. -/
def recordEntry (e : ChangedEntry) : List ChangedEntry → List ChangedEntry
  | [] => [e]
  | x :: xs =>
    if e.slot < x.slot then e :: x :: xs
    else if e.slot = x.slot then ⟨x.slot, e.gen, x.reasons.union e.reasons⟩ :: xs
    else x :: recordEntry e xs

/-- What port `p` with this watch mode records of a report, if its mode keeps any reason (R118). -/
def noticeFor (mode : WatchMode) (e : ChangedEntry) (set : List ChangedEntry) : List ChangedEntry :=
  if e.reasons.keptBy mode = Reasons.empty then set
  else recordEntry { e with reasons := e.reasons.keptBy mode } set

/-- The Notice Unit takes a change report: each port records what its mode on the record keeps (R118). -/
def State.notify (watch : Vector WatchMode 4) (e : ChangedEntry) (s : State) : State :=
  { s with changed := Vector.zipWith (fun mode set => noticeFor mode e set) watch s.changed }

/-! ### The Alert Line Unit (06) -/

/-- The count of line `x` changed by `f` (R126). -/
def State.countLine (x : LineNo) (f : Nat → Nat) (s : State) : State :=
  { s with lineCounts := s.lineCounts.set x.val (f s.lineCounts[x.val]) }

/-- The count of a record's assigned line when its contribution goes from `before` to `after` (R127). -/
def State.moveLine (line : Option LineAssignment) (before after : Bool) (s : State) : State :=
  match line with
  | none => s
  | some a =>
    match contributes line before, contributes line after with
    | false, true => s.countLine a.line (· + 1)
    | true, false => s.countLine a.line (· - 1)
    | false, false | true, true => s

/-- A record's contribution is withdrawn from its line, when it contributed (R129). -/
def State.withdrawLine (line : Option LineAssignment) (alert : Bool) (s : State) : State :=
  match line with
  | none => s
  | some a =>
    if contributes line alert then s.countLine a.line (· - 1) else s

/-- A record's contribution is entered on a line it is assigned to, when it contributes (R128). -/
def State.enterLine (line : Option LineAssignment) (alert : Bool) (s : State) : State :=
  match line with
  | none => s
  | some a =>
    if contributes line alert then s.countLine a.line (· + 1) else s

/-! ### The end of an event on a record -/

/-- A record goes from `r0` to `r1` in slot `i`, and when its body or state changed a change report is handed to the Notice
Unit and the Alert Line Unit (R11, R61, R127). -/
def State.updateRecord (i : Slot) (r0 r1 : Record) (s : State) : State :=
  let reasons := changeReasons r0 r1
  let s := s.writeRecord i r1
  if reasons.body then
    (s.notify r1.watch ⟨i, (s.slot i).gen, reasons⟩).moveLine r1.line r0.inAlert r1.inAlert
  else s

/-- The responses of the first step of R26: every waiter still queued is answered CLOSED, in queue order (R81). -/
def closedResponses (b : Body) : List (Port × Response) :=
  b.waiters.map fun w => (w.port, ⟨w.tag, .closed, []⟩)

/-- The response of the third step of R26: a pending held RETIRE is answered, a discarded one is not. -/
def heldResponse (held : HeldRetire) (result : ResultCode) : List (Port × Response) :=
  match held with
  | .pending p t => [(p, ⟨t, result, []⟩)]
  | .absent | .discarded => []

/-- A slot becomes EMPTY, by the steps of R26. `r0` is its record at the start of the event, `r1` the record as the event's
own change left it, and `result` answers a pending held RETIRE: DONE for a drain, PURGED for PURGE and CLEAR-TABLE. -/
def State.emptySlot (i : Slot) (r0 r1 : Record) (result : ResultCode) (s : State) : State :=
  let s := s.placeAll (closedResponses r1.body)
  let s := s.placeAll (heldResponse r1.held result)
  let s := s.notify r1.watch ⟨i, (s.slot i).gen, endReasons r0 r1⟩
  let s := s.withdrawLine r0.line r0.inAlert
  s.writeSlot i ⟨(s.slot i).gen + 1, none⟩

/-- The event removed the last commitment of a CLOSING record (R19). -/
def drains (r0 r1 : Record) : Bool := r1.state == .closing && r0.committed && !r1.committed

/-- An event takes the record of slot `i` from `r0` to `r1` and places its responses `rs`, in R12's order; when it removed
the last commitment of a CLOSING record it completes the drain (R19), else the record stays (R11). -/
def State.finishEvent (i : Slot) (r0 r1 : Record) (rs : List (Port × Response)) (s : State) : State :=
  let s := s.placeAll rs
  if drains r0 r1 then s.emptySlot i r0 r1 .done else s.updateRecord i r0 r1

/-! ### Holding lists, reservations and the grant cascade (03, 04) -/

/-- The first element that meets `q` is changed by `f`. -/
def updateFirst {α : Type} (q : α → Bool) (f : α → α) : List α → List α
  | [] => []
  | x :: xs => if q x then f x :: xs else x :: updateFirst q f xs

/-- Units join a port's listed entry, or a new entry at the tail of the list (R41, R49). -/
def addUnits (p : Port) (n : Nat) (hs : List Holding) : List Holding :=
  if hs.any (fun h => h.port == p) then
    updateFirst (fun h => h.port == p) (fun h => { h with units := h.units + n }) hs
  else hs ++ [⟨p, n⟩]

/-- An entry becomes the reservation of the port's oldest waiter on the record without one (R45); with no such waiter the
entry is free. -/
def giveReservation (p : Port) (ws : List Waiter) : List Waiter :=
  updateFirst (fun w => w.port == p && !w.reserved) (fun w => { w with reserved := true }) ws

/-- The reservation of the port's newest waiter on the record that carries one is taken from it (R73, step 3). -/
def takeReservation (p : Port) (ws : List Waiter) : List Waiter :=
  (updateFirst (fun w => w.port == p && w.reserved) (fun w => { w with reserved := false }) ws.reverse).reverse

/-- Units are taken from the level for port `p` (R49, R67): the level falls and the port's listed entry gains them, or a new
entry joins the tail. -/
def Pool.take (p : Port) (n : Nat) (b : Pool) : Pool :=
  { b with level := b.level - n, holdings := addUnits p n b.holdings }

/-- The head waiter `w` is granted, `rest` being the waiters behind it (R73, steps 1 to 4). -/
def Pool.grantHead (w : Waiter) (rest : List Waiter) (b : Pool) : Pool :=
  { b.take w.port w.units with
    waiters := if b.lists w.port || w.reserved then rest else takeReservation w.port rest }

/-- The response to a granted waiter: DONE with the level after the grant (R73, step 5). -/
def grantResponse (w : Waiter) (b : Pool) : Port × Response := (w.port, ⟨w.tag, .done, [BitVec.ofNat 16 b.level]⟩)

/-- Grants while the head's units do not exceed the level, at most `fuel` of them, with their responses in order (R72). -/
def Pool.cascadeUpTo : Nat → Pool → Pool × List (Port × Response)
  | 0, b => (b, [])
  | fuel + 1, b =>
    match b.waiters with
    | [] => (b, [])
    | w :: rest =>
      if w.units ≤ b.level then
        let b1 := b.grantHead w rest
        ((Pool.cascadeUpTo fuel b1).1, grantResponse w b1 :: (Pool.cascadeUpTo fuel b1).2)
      else (b, [])

/-- The grant cascade (R72): each grant takes one waiter, so the length of the queue bounds it. -/
def Pool.cascade (b : Pool) : Pool × List (Port × Response) := Pool.cascadeUpTo b.waiters.length b

/-- The reservations of ended waiters, each handed on where R45 says so: its port has no listed entry and another waiter on
the record without one (R71). -/
def handOn (b : Pool) (ended rest : List Waiter) : List Waiter :=
  ended.foldl (fun ws w => if w.reserved && !b.lists w.port then giveReservation w.port ws else ws) rest

/-- The waiters that meet `q` end other than by grant: they leave the queue, the others keep their order, and reservations
are freed or handed on (R71). -/
def Pool.endWaiters (q : Waiter → Bool) (b : Pool) : Pool :=
  { b with waiters := handOn b (b.waiters.filter q) (b.waiters.filter (fun w => !q w)) }

/-- The responses of one event to the waiters of a queue, in the order they stood (R12): those that meet `q` get `result`,
and the granted ones among the others, which are the first of them, get their grants' responses. -/
def mergeResponses (q : Waiter → Bool) (result : Option ResultCode) :
    List Waiter → List (Port × Response) → List (Port × Response)
  | [], grants => grants
  | w :: ws, grants =>
    if q w then
      match result with
      | some r => (w.port, ⟨w.tag, r, []⟩) :: mergeResponses q result ws grants
      | none => mergeResponses q result ws grants
    else
      match grants with
      | [] => mergeResponses q result ws []
      | g :: gs => g :: mergeResponses q result ws gs

/-- A port's listed entry loses `n` units. At 0 it leaves the list, and becomes the reservation of the port's oldest waiter
on the record when the port has waiters there and none carries one (R45, R52). The level rises by `n`. -/
def Pool.giveBack (p : Port) (n : Nat) (b : Pool) : Pool :=
  if b.unitsOf p ≤ n then
    { b with
      level := b.level + n
      holdings := b.holdings.filter (fun h => h.port != p)
      waiters := if b.waiters.any (fun w => w.port == p && w.reserved) then b.waiters
        else giveReservation p b.waiters }
  else
    { b with
      level := b.level + n
      holdings := updateFirst (fun h => h.port == p) (fun h => { h with units := h.units - n }) b.holdings }

/-! ### MATTN reasons (09) -/

/-- Bit n of the MATTN reason byte becomes set (R182, 10.7). -/
def State.setReason (n : Nat) (s : State) : State := { s with mattnReasons := s.mattnReasons ||| (1#8 <<< n) }

/-- CHECK-DONE is bit 0 (10.7). -/
def reasonCheckDone : Nat := 0

/-- CHECK-FAILED is bit 1 (10.7). -/
def reasonCheckFailed : Nat := 1

/-- RECLAIM-DONE for port `p` is bit 2 + p (10.7). -/
def reasonReclaimDone (p : Port) : Nat := 2 + p.val

/-- HOLDING-EXHAUSTED is bit 6 (10.7). -/
def reasonHoldingExhausted : Nat := 6

/-- WAITER-EXHAUSTED is bit 7 (10.7). -/
def reasonWaiterExhausted : Nat := 7

/-! ### The Intake Arbiter (07) -/

/-- The claimant after `c` in the circle P0, P1, P2, P3, Walker (R150). -/
def Claimant.after : Claimant → Claimant
  | .port p => if p.val = 3 then .walker else .port (p + 1)
  | .walker => .port 0

/-- The five claimants in circle order from `c` on (R150). -/
def circleFrom (c : Claimant) : List Claimant :=
  [c, c.after, c.after.after, c.after.after.after, c.after.after.after.after]

/-- Port `p` is DRAINING with its walk unfinished (R150, R160). -/
def State.walking (s : State) (p : Port) : Bool :=
  (s.port p).mode == .draining && s.cursors[p.val] < Config.slotCount

/-- A claimant is eligible: a port while it is ONLINE with a request in its intake queue, the Walker while a port is
DRAINING with its walk unfinished (R150). -/
def State.eligible (s : State) : Claimant → Bool
  | .port p => (s.port p).mode == .online && !(s.port p).intake.isEmpty
  | .walker => allPorts.any s.walking

/-- The arbiter gives turns: the device is READY and out of reset, and no CLEAR-TABLE is in progress (R171, R179). -/
def State.givesTurns (s : State) : Bool := !s.resetAsserted && s.condition == .ready && s.clear.isNone

/-- The claimant that gets the next turn, if one is given: the first eligible one at or after the rotation position
(R150). -/
def State.turn (s : State) : Option Claimant :=
  if s.givesTurns then (circleFrom s.rotation).find? s.eligible else none

/-- The turn is given: the rotation position moves to the claimant after the one served (R150). -/
def State.serve (c : Claimant) (s : State) : State := { s with rotation := c.after }

/-- A turn of port `p` whose head request has the code `c`: the request leaves the intake queue, the rotation position moves
on, and the request is taken by `take` (R151). In a state whose next turn is not such a turn nothing happens
(notes/assumptions/1.md). -/
def State.onTurn (p : Port) (c : ReqCode) (take : Port → Request → State → State) (s : State) : State :=
  match (s.port p).intake with
  | [] => s
  | r :: rest =>
    if s.turn = some (.port p) ∧ r.code = c then
      take p r ((s.serve (.port p)).modifyPort p fun q => { q with intake := rest })
    else s

/-- The response to a request, DONE or another result, with its data words. -/
def answer (r : Request) (result : ResultCode) (data : List Word) : Response := ⟨r.tag, result, data⟩

/-- A request is answered with no other change. -/
def State.reply (p : Port) (r : Request) (result : ResultCode) (data : List Word) (s : State) : State :=
  s.place p (answer r result data)

/-- Word `n` of a request's staged words, from 0. The port has checked the count (R138), so every word a rule reads is
there. -/
def Request.word (r : Request) (n : Nat) : Word := r.words.getD n 0

/-- What the checks of R3 and R4 need to know of a request: the kinds it belongs to (none: every kind), whether it is
owner-only, and whether R18 allows it on a CLOSING record. -/
structure CheckSpec where
  kindOk : Kind → Bool
  ownerOnly : Bool
  onClosing : Bool

/-- The checks of R3 and R4 on a request that names a handle: STALE, WRONG-KIND, NOT-OWNER, CLOSING in this order, else the
record. -/
def State.checkHandle (p : Port) (h : Word) (c : CheckSpec) (s : State) : ResultCode ⊕ Record :=
  match (s.slot (handleSlot h)).record with
  | none => .inl .stale
  | some r =>
    if handleGen h ≠ (s.slot (handleSlot h)).gen then .inl .stale
    else if !c.kindOk r.kind then .inl .wrongKind
    else if c.ownerOnly && r.owner != some p then .inl .notOwner
    else if !c.onClosing && r.state == .closing then .inl .closing
    else .inr r

/-- A request on a handle, its first word: refused by R3 or R4 with no data words and no change, or handed to `act` with the
slot and its record. -/
def State.withRecord (c : CheckSpec) (act : Slot → Record → Port → Request → State → State)
    (p : Port) (r : Request) (s : State) : State :=
  match s.checkHandle p (r.word 0) c with
  | .inl result => s.reply p r result []
  | .inr rec => act (handleSlot (r.word 0)) rec p r s

end Sys2Proof.Machine
end

