-- ==== Sys2Proof/Machine/FlagRecords.lean ====
section
/-! DEFINITION. FLAGS records (05 section 5.2): SET_FLAGS, CLEAR_FLAGS, TOGGLE_FLAGS, CLAIM and UNCLAIM. -/

namespace Sys2Proof.Machine

/-- A FLAGS request acts on the FLAGS record it names; R4's kind check has answered the other kinds. -/
def onFlags (act : Slot → Record → FlagSet → Port → Request → State → State)
    (i : Slot) (rec : Record) (p : Port) (r : Request) (s : State) : State :=
  match rec.body with
  | .flags b => act i rec b p r s
  | .pool _ | .counter _ | .sequence _ => s.reply p r .wrongKind []

/-- The checks of R101 and R103: a FLAGS record, any port, not while CLOSING. -/
def flagsCheck : CheckSpec := ⟨fun k => k == .flags, false, false⟩

/-- A mask operation (R102): `op` acts on the flags the mask selects that have no claimant, and the answer gives the flags
and the skipped set, which is the claimed part of the mask. -/
def actMask (op : Word → Word → Word) (i : Slot) (rec : Record) (b : FlagSet) (p : Port) (r : Request) (s : State) : State :=
  let b1 := { b with flags := op b.flags (r.word 1 &&& ~~~b.claimed) }
  s.finishEvent i rec { rec with body := .flags b1 } [(p, answer r .done [b1.flags, r.word 1 &&& b.claimed])]

/-- SET_FLAGS (R102): each acted-on flag becomes set. -/
def execSetFlags (p : Port) (s : State) : Host.Outcome State Fault Refusal :=
  .next (s.onTurn p .setFlags (State.withRecord flagsCheck (onFlags (actMask fun flags m => flags ||| m))))

/-- CLEAR_FLAGS (R102): each acted-on flag becomes clear. -/
def execClearFlags (p : Port) (s : State) : Host.Outcome State Fault Refusal :=
  .next (s.onTurn p .clearFlags (State.withRecord flagsCheck (onFlags (actMask fun flags m => flags &&& ~~~m))))

/-- TOGGLE_FLAGS (R102): each acted-on flag is inverted. -/
def execToggleFlags (p : Port) (s : State) : Host.Outcome State Fault Refusal :=
  .next (s.onTurn p .toggleFlags (State.withRecord flagsCheck (onFlags (actMask fun flags m => flags ^^^ m))))

/-- The word with flag `n` alone. -/
def flagBit (n : FlagNo) : Word := 1#16 <<< n.val

/-- The lowest-numbered flag that a mask selects and that is clear (R103). -/
def FlagSet.lowestClear (mask : Word) (b : FlagSet) : Option FlagNo :=
  (List.finRange 16).find? (fun n => (mask &&& ~~~b.flags).getLsbD n.val)

/-- Flag `n` is set with claimant `p` (R103). -/
def FlagSet.claim (n : FlagNo) (p : Port) (b : FlagSet) : FlagSet :=
  { b with flags := b.flags ||| flagBit n, claimants := b.claimants.set n.val (some p) }

/-- CLAIM on its FLAGS record (R103). -/
def actClaim (i : Slot) (rec : Record) (b : FlagSet) (p : Port) (r : Request) (s : State) : State :=
  match b.lowestClear (r.word 1) with
  | none => s.reply p r .noFreeFlag []
  | some n =>
    s.finishEvent i rec { rec with body := .flags (b.claim n p) }
      [(p, answer r .done [natWord n.val, (b.claim n p).flags])]

/-- CLAIM (R103). -/
def execClaim (p : Port) (s : State) : Host.Outcome State Fault Refusal :=
  .next (s.onTurn p .claim (State.withRecord flagsCheck (onFlags actClaim)))

/-- Flag `n` is clear and has no claimant (R104). -/
def FlagSet.unclaim (n : FlagNo) (b : FlagSet) : FlagSet :=
  { b with flags := b.flags &&& ~~~flagBit n, claimants := b.claimants.set n.val none }

/-- UNCLAIM on its FLAGS record (R104): BAD-REQUEST for a flag word above 15, NOT-HELD for a flag the port does not claim. -/
def actUnclaim (i : Slot) (rec : Record) (b : FlagSet) (p : Port) (r : Request) (s : State) : State :=
  if 15 < (r.word 1).toNat then s.reply p r .badRequest []
  else if b.claimant (r.word 1).toNat ≠ some p then s.reply p r .notHeld []
  else
    let b1 := b.unclaim (Fin.ofNat 16 (r.word 1).toNat)
    s.finishEvent i rec { rec with body := .flags b1 } [(p, answer r .done [b1.flags])]

/-- UNCLAIM (R104): allowed on a CLOSING record. -/
def execUnclaim (p : Port) (s : State) : Host.Outcome State Fault Refusal :=
  .next (s.onTurn p .unclaim (State.withRecord ⟨fun k => k == .flags, false, true⟩ (onFlags actUnclaim)))

/-- The flags port `p` claims are cleared and lose their claimant (R107). -/
def FlagSet.reclaim (p : Port) (b : FlagSet) : FlagSet :=
  { b with
    flags := b.flags &&& ~~~b.claimedBy p
    claimants := b.claimants.map (fun c => if c = some p then none else c) }

end Sys2Proof.Machine
end

