-- ==== Sys2Proof/Machine/PortWindow.lean ====
section
/-! DEFINITION. The accesses of the port window (07 sections 7.1 to 7.8): STAGE_WRITE, SUBMISSION, RESPONSE_READ, the
CONTROL write with its three rows, IGNORED_WRITE and ATTACH. -/

namespace Sys2Proof.Machine

/-- An access or event from outside is taken while RESET is deasserted, and not at all while it is held asserted (R168). -/
def State.outOfReset (f : State → State) (s : State) : State := if s.resetAsserted then s else f s

/-! ### Staging (R136) -/

/-- A write to STAGE appends the word, or sets the overflow mark when six words are held (R136). -/
def PortState.stage (w : Word) (q : PortState) : PortState :=
  if q.staging.length < Config.stagingWords then { q with staging := q.staging ++ [w] } else { q with overflow := true }

/-- The staging buffer emptied and its mark cleared (R136). -/
def PortState.clearStaging (q : PortState) : PortState := { q with staging := [], overflow := false }

/-- STAGE_WRITE (R136, R184). -/
def execStageWrite (p : Port) (w : Word) (s : State) : Host.Outcome State Fault Refusal :=
  .next (s.outOfReset (State.modifyPort p (PortState.stage w)))

/-! ### Submission (R137 to R141) -/

/-- The third check of R137: the refusal of the port state, if it does not admit the request (R135). A code that names no
request is not ATTACH (notes/assumptions/13.md). -/
def modeRefusal (mode : PortMode) (code : Option ReqCode) : Option RefusalReason :=
  match mode with
  | .offline => if code = some .attach then none else some .offline
  | .online => none
  | .fenced => some .fenced
  | .draining => some .draining

/-- The fourth check of R137: the header or the staged words are malformed (R138, R184). -/
def PortState.malformed (q : PortState) (w : Word) : Bool :=
  !headerLowZero w || q.overflow ||
    match headerCode w with
    | none => true
    | some c => !wordCountOk c q.staging

/-- The refusal of a submission, by the checks of R137 in their order; none if it passes every check. -/
def State.refusalOf (p : Port) (w : Word) (s : State) : Option RefusalReason :=
  if s.condition = .checking then some .notReady
  else if s.condition = .failed then some .fault
  else
    match modeRefusal (s.port p).mode (headerCode w) with
    | some reason => some reason
    | none =>
      if (s.port p).malformed w then some .malformed
      else if headerTag w ∈ (s.port p).outstanding then some .tagInUse
      else if Config.outstandingLimit ≤ (s.port p).outstanding.length then some .full
      else none

/-- A refusal writes the refusal register and empties the staging buffer (R137, R139). -/
def PortState.refuse (reason : RefusalReason) (tag : Tag) (q : PortState) : PortState :=
  { q.clearStaging with refusalFlag := true, refusalReason := some reason, refusedTag := tag }

/-- An accepted submission other than ATTACH joins the tail of the intake queue with its tag outstanding (R140). -/
def PortState.accept (c : ReqCode) (tag : Tag) (q : PortState) : PortState :=
  { q.clearStaging with intake := q.intake ++ [⟨c, tag, q.staging⟩], outstanding := q.outstanding ++ [tag] }

/-- An accepted ATTACH: an OFFLINE port becomes ONLINE, the tag is outstanding and a DONE with no data words joins the
response queue, all in the access (R141). -/
def PortState.acceptAttach (tag : Tag) (q : PortState) : PortState :=
  { q.clearStaging with
    mode := if q.mode = .offline then .online else q.mode
    outstanding := q.outstanding ++ [tag]
    responses := q.responses ++ [⟨tag, .done, []⟩] }

/-- What a write of the header word `w` to SUBMIT makes of the port, `refusal` being the answer of R137's checks. -/
def PortState.submit (w : Word) (refusal : Option RefusalReason) (q : PortState) : PortState :=
  match refusal with
  | some reason => q.refuse reason (headerTag w)
  | none =>
    match headerCode w with
    | some .attach => q.acceptAttach (headerTag w)
    | some c => q.accept c (headerTag w)
    | none => q.clearStaging

/-- A write of the header word `w` to SUBMIT at port `p` (R137). -/
def State.submit (p : Port) (w : Word) (s : State) : State :=
  s.modifyPort p (PortState.submit w (s.refusalOf p w))

/-- SUBMISSION (R137). -/
def execSubmission (p : Port) (w : Word) (s : State) : Host.Outcome State Fault Refusal :=
  .next (s.outOfReset (State.submit p w))

/-- ATTACH (R141): the submission of the ATTACH header with the tag (notes/assumptions/12.md). -/
def execAttach (p : Port) (tag : Tag) (s : State) : Host.Outcome State Fault Refusal :=
  .next (s.outOfReset (State.submit p (headerWord .attach tag)))

/-! ### Responses (R144, R145) -/

/-- A read of RESPONSE: the word it returns stands on the data pins; the position advances, and at the last word of the
oldest response the response leaves the queue, its tag leaves the outstanding set and the position returns to 0 (R144). On
an empty queue nothing but the pins changes (R145). -/
def PortState.readResponse (q : PortState) : PortState :=
  match q.responses with
  | [] => { q with dataOut := q.responseWord }
  | r :: rest =>
    if q.readPos < r.data.length then { q with dataOut := q.responseWord, readPos := q.readPos + 1 }
    else
      { q with
        dataOut := q.responseWord
        responses := rest
        readPos := 0
        outstanding := q.outstanding.filter (· != r.tag) }

/-- RESPONSE_READ (R144). -/
def execResponseRead (p : Port) (s : State) : Host.Outcome State Fault Refusal :=
  .next (s.outOfReset (State.modifyPort p PortState.readResponse))

/-! ### The control word (R147) -/

/-- A write of `w` to CONTROL: both enables take its values, bit 2 clears the refusal flag and bit 3 empties the staging
buffer; bits 15 to 4 are ignored (R147, R184). -/
def PortState.control (w : Word) (q : PortState) : PortState :=
  { q with
    responseEnable := w.getLsbD 0
    noticeEnable := w.getLsbD 1
    refusalFlag := q.refusalFlag && !w.getLsbD 2
    staging := if w.getLsbD 3 then [] else q.staging
    overflow := q.overflow && !w.getLsbD 3 }

/-- A write of `w` to CONTROL at port `p`. -/
def State.writeControl (p : Port) (w : Word) (s : State) : State := s.modifyPort p (PortState.control w)

/-- ATTENTION_ENABLES (R147). -/
def execAttentionEnables (p : Port) (w : Word) (s : State) : Host.Outcome State Fault Refusal :=
  .next (s.outOfReset (State.writeControl p w))

/-- CLEAR_REFUSAL (R139, R147). -/
def execClearRefusal (p : Port) (w : Word) (s : State) : Host.Outcome State Fault Refusal :=
  .next (s.outOfReset (State.writeControl p w))

/-- CLEAR_STAGING (R136, R147). -/
def execClearStaging (p : Port) (w : Word) (s : State) : Host.Outcome State Fault Refusal :=
  .next (s.outOfReset (State.writeControl p w))

/-- A write at any offset of the port window (R134): the offsets other than STAGE, SUBMIT and CONTROL are ignored. -/
def State.writeWindow (p : Port) (offset : BitVec 3) (w : Word) (s : State) : State :=
  match offset.toNat with
  | 0 => s.modifyPort p (PortState.stage w)
  | 1 => s.submit p w
  | 4 => s.writeControl p w
  | _ => s

/-- IGNORED_WRITE (R134). -/
def execIgnoredWrite (p : Port) (offset : BitVec 3) (w : Word) (s : State) : Host.Outcome State Fault Refusal :=
  .next (s.outOfReset (State.writeWindow p offset w))

end Sys2Proof.Machine
end

