-- ==== Sys2Proof/Machine/Pools.lean ====
section
/-! DEFINITION. POOL records (03, and ACQUIRE-WAIT of 04): ACQUIRE, ACQUIRE_WAIT, RELEASE, RESTOCK and READ_HOLDERS. -/

namespace Sys2Proof.Machine

/-- A POOL request acts on the POOL it names; R4's kind check has answered the other kinds. -/
def onPool (act : Slot → Record → Pool → Port → Request → State → State)
    (i : Slot) (rec : Record) (p : Port) (r : Request) (s : State) : State :=
  match rec.body with
  | .pool b => act i rec b p r s
  | .counter _ | .flags _ | .sequence _ => s.reply p r .wrongKind []

/-- Units taken at once, after the level has been found to serve them: NO-HOLDING-ENTRY with HOLDING-EXHAUSTED when the port
has no listed entry and none is free (R47), else DONE with the level (R49, R67). -/
def State.serveUnits (i : Slot) (rec : Record) (b : Pool) (n : Nat) (p : Port) (r : Request) (s : State) : State :=
  if !b.lists p && s.freeHoldings == 0 then (s.setReason reasonHoldingExhausted).reply p r .noHoldingEntry []
  else
    s.finishEvent i rec { rec with body := .pool (b.take p n) }
      [(p, answer r .done [natWord (b.take p n).level])]

/-- ACQUIRE on its POOL, the checks of R48 from the third on. -/
def actAcquire (i : Slot) (rec : Record) (b : Pool) (p : Port) (r : Request) (s : State) : State :=
  let n := (r.word 1).toNat
  if n = 0 then s.reply p r .badRequest []
  else if !b.waiters.isEmpty || b.level < n then s.reply p r .short []
  else s.serveUnits i rec b n p r

/-- ACQUIRE (R48). -/
def execAcquire (p : Port) (s : State) : Host.Outcome State Fault Refusal :=
  .next (s.onTurn p .acquire (State.withRecord ⟨fun k => k == .pool, false, false⟩ (onPool actAcquire)))

/-- The waiter an ACQUIRE-WAIT queues (R68): it carries a reservation when the port has no listed entry on the record. -/
def newWaiter (b : Pool) (n timeout : Nat) (p : Port) (r : Request) : Waiter :=
  ⟨p, r.tag, n, if timeout = 0 then none else some timeout, !b.lists p⟩

/-- ACQUIRE-WAIT on its POOL, the checks of R66 from the third on. -/
def actAcquireWait (i : Slot) (rec : Record) (b : Pool) (p : Port) (r : Request) (s : State) : State :=
  let n := (r.word 1).toNat
  let timeout := (r.word 2).toNat
  if n = 0 then s.reply p r .badRequest []
  else if Config.maxTimeout < timeout then s.reply p r .badRequest []
  else if b.stock < n then s.reply p r .short []
  else if b.waiters.isEmpty && n ≤ b.level then s.serveUnits i rec b n p r
  else if s.freeWaiters = 0 then (s.setReason reasonWaiterExhausted).reply p r .noWaiter []
  else if !b.lists p && s.freeHoldings == 0 then
    (s.setReason reasonHoldingExhausted).reply p r .noHoldingEntry []
  else
    s.finishEvent i rec { rec with body := .pool { b with waiters := b.waiters ++ [newWaiter b n timeout p r] } } []

/-- ACQUIRE_WAIT (R66). -/
def execAcquireWait (p : Port) (s : State) : Host.Outcome State Fault Refusal :=
  .next (s.onTurn p .acquireWait (State.withRecord ⟨fun k => k == .pool, false, false⟩ (onPool actAcquireWait)))

/-- RELEASE on its POOL: the checks of R51 from the second on, then the return of the units and the grant cascade (R52). -/
def actRelease (i : Slot) (rec : Record) (b : Pool) (p : Port) (r : Request) (s : State) : State :=
  let n := (r.word 1).toNat
  if n = 0 then s.reply p r .badRequest []
  else if b.unitsOf p < n then s.reply p r .notHeld []
  else
    let c := (b.giveBack p n).cascade
    s.finishEvent i rec { rec with body := .pool c.1 } (c.2 ++ [(p, answer r .done [natWord c.1.level])])

/-- RELEASE (R52): allowed on a CLOSING record. -/
def execRelease (p : Port) (s : State) : Host.Outcome State Fault Refusal :=
  .next (s.onTurn p .release (State.withRecord ⟨fun k => k == .pool, false, true⟩ (onPool actRelease)))

/-- The DONE of a RESTOCK carries the stock and the level (R55 to R57). -/
def restockAnswer (b : Pool) (p : Port) (r : Request) : Port × Response :=
  (p, answer r .done [natWord b.stock, natWord b.level])

/-- RESTOCK upward by `n` (R56). -/
def restockUp (i : Slot) (rec : Record) (b : Pool) (n : Nat) (p : Port) (r : Request) (s : State) : State :=
  if 65535 < b.stock + n then s.reply p r .limit []
  else
    let c := ({ b with stock := b.stock + n, level := b.level + n } : Pool).cascade
    s.finishEvent i rec { rec with body := .pool c.1 } (c.2 ++ [restockAnswer c.1 p r])

/-- The waiters a downward RESTOCK ends: their units exceed the new stock (R57). -/
def aboveStock (stock : Nat) (w : Waiter) : Bool := stock < w.units

/-- RESTOCK downward by `n` (R57). -/
def restockDown (i : Slot) (rec : Record) (b : Pool) (n : Nat) (p : Port) (r : Request) (s : State) : State :=
  if b.level < n then s.reply p r .short []
  else
    let b1 : Pool := { b with stock := b.stock - n, level := b.level - n }
    let c := (b1.endWaiters (aboveStock b1.stock)).cascade
    s.finishEvent i rec { rec with body := .pool c.1 }
      (mergeResponses (aboveStock b1.stock) (some .short) b.waiters c.2 ++ [restockAnswer c.1 p r])

/-- RESTOCK on its POOL, by the sign of its delta (R55). -/
def actRestock (i : Slot) (rec : Record) (b : Pool) (p : Port) (r : Request) (s : State) : State :=
  let delta := (r.word 1).toInt
  if delta = 0 then s.placeAll [restockAnswer b p r]
  else if 0 < delta then restockUp i rec b delta.toNat p r s
  else restockDown i rec b (-delta).toNat p r s

/-- RESTOCK (R55): owner-only. -/
def execRestock (p : Port) (s : State) : Host.Outcome State Fault Refusal :=
  .next (s.onTurn p .restock (State.withRecord ⟨fun k => k == .pool, true, false⟩ (onPool actRestock)))

/-- The data words of READ-HOLDERS: the units of P0 to P3, then the waiter count (R60). -/
def Pool.holdersWords (b : Pool) : List Word :=
  allPorts.map (fun q => natWord (b.unitsOf q)) ++ [natWord b.waiters.length]

/-- READ-HOLDERS on its POOL (R60). -/
def actReadHolders (_i : Slot) (_rec : Record) (b : Pool) (p : Port) (r : Request) (s : State) : State :=
  s.reply p r .done b.holdersWords

/-- READ_HOLDERS (R60): allowed on a CLOSING record. -/
def execReadHolders (p : Port) (s : State) : Host.Outcome State Fault Refusal :=
  .next (s.onTurn p .readHolders (State.withRecord ⟨fun k => k == .pool, false, true⟩ (onPool actReadHolders)))

end Sys2Proof.Machine
end

