-- ==== Sys2Proof/Machine/Counters.lean ====
section
/-! DEFINITION. COUNTER records (05 section 5.1): ADD, SET, COMPARE_SET, CLEAR_LIMIT, and what LIMITS does to a COUNTER. -/

namespace Sys2Proof.Machine

/-- A target outside the range (R89). -/
def Counter.outside (target : Int) (c : Counter) : Bool := target < c.floor || c.ceiling < target

/-- The nearer bound to a value, or the value itself inside the range (R89, R96). -/
def clampTo (floor ceiling v : Int) : Int := if v < floor then floor else if ceiling < v then ceiling else v

/-- The COUNTER after a request forms its target (R89): inside the range the value becomes the target; outside it the limit
flag is set, and the value stays under REJECT and becomes the nearer bound under CLIP. -/
def Counter.applyTarget (target : Int) (c : Counter) : Counter :=
  if c.outside target then
    match c.policy with
    | .reject => { c with limitFlag := true }
    | .clip => { c with limitFlag := true, value := clampTo c.floor c.ceiling target }
  else { c with value := target }

/-- The result of a request with this target: LIMIT outside the range under REJECT, else DONE (R89). -/
def Counter.targetResult (target : Int) (c : Counter) : ResultCode :=
  if c.outside target && c.policy == .reject then .limit else .done

/-- The CLIPPED indication: the target lay outside the range under CLIP (R88, R89). -/
def Counter.targetClipped (target : Int) (c : Counter) : Bool := c.outside target && c.policy == .clip

/-- A COUNTER request ends its event: the record has the new body, and the answer carries the value word and the counter
status word (R88). -/
def State.finishCounter (i : Slot) (rec : Record) (c1 : Counter) (p : Port) (r : Request) (result : ResultCode)
    (clipped : Bool) (s : State) : State :=
  s.finishEvent i rec { rec with body := .counter c1 } [(p, answer r result (c1.answerWords clipped))]

/-- A request with a target is applied under the record's policy (R89). -/
def State.applyTarget (i : Slot) (rec : Record) (c : Counter) (target : Int) (p : Port) (r : Request) (s : State) : State :=
  s.finishCounter i rec (c.applyTarget target) p r (c.targetResult target) (c.targetClipped target)

/-- A COUNTER request that is not owner-only (R91 to R93). -/
def counterCheck : CheckSpec := ⟨fun k => k == .counter, false, false⟩

/-- A COUNTER request acts on the COUNTER it names; R4's kind check has answered the other kinds. -/
def onCounter (act : Slot → Record → Counter → Port → Request → State → State)
    (i : Slot) (rec : Record) (p : Port) (r : Request) (s : State) : State :=
  match rec.body with
  | .counter c => act i rec c p r s
  | .pool _ | .flags _ | .sequence _ => s.reply p r .wrongKind []

/-- ADD on its COUNTER: the target is the value plus the delta, at full width (R89, R91). -/
def actAdd (i : Slot) (rec : Record) (c : Counter) (p : Port) (r : Request) (s : State) : State :=
  s.applyTarget i rec c (c.value + (r.word 1).toInt) p r

/-- ADD (R91). -/
def execAdd (p : Port) (s : State) : Host.Outcome State Fault Refusal :=
  .next (s.onTurn p .add (State.withRecord counterCheck (onCounter actAdd)))

/-- SET on its COUNTER: the staged value is the target (R92). -/
def actSet (i : Slot) (rec : Record) (c : Counter) (p : Port) (r : Request) (s : State) : State :=
  s.applyTarget i rec c (r.word 1).toInt p r

/-- SET (R92). -/
def execSet (p : Port) (s : State) : Host.Outcome State Fault Refusal :=
  .next (s.onTurn p .set (State.withRecord counterCheck (onCounter actSet)))

/-- COMPARE-SET on its COUNTER: MISMATCH with the value held when it differs from the expected one, else the new value is
the target (R93). -/
def actCompareSet (i : Slot) (rec : Record) (c : Counter) (p : Port) (r : Request) (s : State) : State :=
  if c.value = (r.word 1).toInt then s.applyTarget i rec c (r.word 2).toInt p r
  else s.reply p r .mismatch (c.answerWords false)

/-- COMPARE_SET (R93). -/
def execCompareSet (p : Port) (s : State) : Host.Outcome State Fault Refusal :=
  .next (s.onTurn p .compareSet (State.withRecord counterCheck (onCounter actCompareSet)))

/-- CLEAR-LIMIT on its COUNTER: the limit flag becomes clear (R94). -/
def actClearLimit (i : Slot) (rec : Record) (c : Counter) (p : Port) (r : Request) (s : State) : State :=
  s.finishCounter i rec { c with limitFlag := false } p r .done false

/-- CLEAR_LIMIT (R94): owner-only. -/
def execClearLimit (p : Port) (s : State) : Host.Outcome State Fault Refusal :=
  .next (s.onTurn p .clearLimit (State.withRecord ⟨fun k => k == .counter, true, false⟩ (onCounter actClearLimit)))

/-- The COUNTER after a LIMITS with these four values (R96): a value outside the new range becomes the nearer bound and the
limit flag is set, under either policy. -/
def Counter.setLimits (floor ceiling low high : Int) (c : Counter) : Counter :=
  { c with
    floor := floor
    ceiling := ceiling
    lowMark := low
    highMark := high
    value := clampTo floor ceiling c.value
    limitFlag := c.limitFlag || (c.value < floor || ceiling < c.value) }

/-- LIMITS on a COUNTER: BAD-REQUEST for floor above ceiling or low mark above high mark (R95), else R96. -/
def actCounterLimits (i : Slot) (rec : Record) (c : Counter) (p : Port) (r : Request) (s : State) : State :=
  let floor := (r.word 1).toInt
  let ceiling := (r.word 2).toInt
  let low := (r.word 3).toInt
  let high := (r.word 4).toInt
  if ceiling < floor || high < low then s.reply p r .badRequest []
  else s.finishCounter i rec (c.setLimits floor ceiling low high) p r .done (c.value < floor || ceiling < c.value)

end Sys2Proof.Machine
end

