-- ==== Sys2Proof/Machine/Finding.lean ====
section
/-! DEFINITION. The Key Search Unit (02): FIND and SCAN. It keeps nothing between requests (R28). -/

namespace Sys2Proof.Machine

/-- The slot of the LIVE or CLOSING record with the given key (R30). -/
def State.slotOfKey (s : State) (key : Word) : Option Slot :=
  allSlots.find? (fun i => (s.slot i).record.any (fun r => r.key == key))

/-- The handle of slot `i` as it stands (R29). -/
def State.handleOf (s : State) (i : Slot) : Word := handleWord i (s.slot i).gen

/-- FIND taken from port `p` (R30). -/
def takeFind (p : Port) (r : Request) (s : State) : State :=
  match s.slotOfKey (r.word 0) with
  | some i => s.reply p r .done [s.handleOf i]
  | none => s.reply p r .notFound []

/-- FIND (R30). -/
def execFind (p : Port) (s : State) : Host.Outcome State Fault Refusal := .next (s.onTurn p .find takeFind)

/-- A record answers a SCAN: its key equals the match value under the mask, and the kind filter is ANY or names its kind
(R33). -/
def Record.answersScan (value mask : Word) (filter : Nat) (r : Record) : Bool :=
  r.key &&& mask == value &&& mask && (filter == 0 || filter == r.kind.code)

/-- The first slot at or above the start slot whose record answers the SCAN (R33). -/
def State.scanFrom (s : State) (value mask position : Word) : Option Slot :=
  allSlots.find? (fun i => positionStart position ≤ i.val &&
    (s.slot i).record.any (Record.answersScan value mask (positionFilter position)))

/-- SCAN taken from port `p` (R32, R33). -/
def takeScan (p : Port) (r : Request) (s : State) : State :=
  if !positionOk (r.word 2) then s.reply p r .badRequest []
  else
    match s.scanFrom (r.word 0) (r.word 1) (r.word 2) with
    | some i => s.reply p r .done [s.handleOf i, ((s.slot i).record.map (·.key)).getD 0]
    | none => s.reply p r .notFound []

/-- SCAN (R33). -/
def execScan (p : Port) (s : State) : Host.Outcome State Fault Refusal := .next (s.onTurn p .scan takeScan)

end Sys2Proof.Machine
end

