-- ==== Sys2Proof/Machine/Records.lean ====
section
/-! DEFINITION. The requests of the Record Table (01): CREATE, RETIRE, ADOPT, READ, WATCH, ASSIGN_LINE and LIMITS, and the
completion of a drain. -/

namespace Sys2Proof.Machine

/-! ### CREATE (R13 to R15) -/

/-- The initial body of a POOL, if its parameters are acceptable: the initial level equals the stock (R14, R15). -/
def createPool (r : Request) : Option Body :=
  if r.word 2 = r.word 3 then some (.pool ⟨(r.word 2).toNat, (r.word 3).toNat, 0, [], []⟩) else none

/-- The initial body of a COUNTER, if its parameters are acceptable (R14, R15). -/
def createCounter (r : Request) : Option Body :=
  match policyOfCode (policyCode (r.word 0)) with
  | none => none
  | some policy =>
    let value := (r.word 2).toInt
    let floor := (r.word 3).toInt
    let ceiling := (r.word 4).toInt
    if floor ≤ value ∧ value ≤ ceiling then
      some (.counter ⟨value, floor, ceiling, policy, false, floor, ceiling⟩)
    else none

/-- The initial body of a FLAGS record; no value is unacceptable (R14, R15). -/
def createFlags (r : Request) : Option Body :=
  some (.flags ⟨r.word 2, Vector.replicate 16 none, r.word 3⟩)

/-- The initial body of a SEQUENCE, if its step is not 0 and lies from -128 to 127 (R14, R15). -/
def createSequence (r : Request) : Option Body :=
  let step := (r.word 3).toInt
  if step ≠ 0 ∧ -128 ≤ step ∧ step ≤ 127 then
    some (.sequence ⟨r.word 2, step, (r.word 4).toNat, (r.word 5).toNat⟩)
  else none

/-- The body a CREATE asks for; none where R14's first or second check answers BAD-REQUEST. -/
def createBody (r : Request) : Option Body :=
  match kindOfCode (kindCode (r.word 0)) with
  | none => none
  | some .pool => createPool r
  | some .counter => createCounter r
  | some .flags => createFlags r
  | some .sequence => createSequence r

/-- The lowest-numbered EMPTY slot (R15). -/
def State.lowestEmpty (s : State) : Option Slot := allSlots.find? (fun i => (s.slot i).record.isNone)

/-- A new record (R15): owned by the creating port, no line, every watch mode OFF, no held retire. -/
def newRecord (key : Word) (p : Port) (body : Body) : Record :=
  ⟨key, .live, some p, none, Vector.replicate 4 .off, .absent, body⟩

/-- CREATE taken from port `p`: the checks of R14 in order, then R15. -/
def takeCreate (p : Port) (r : Request) (s : State) : State :=
  match createBody r with
  | none => s.reply p r .badRequest []
  | some body =>
    match s.slotOfKey (r.word 1) with
    | some _ => s.reply p r .duplicate []
    | none =>
      match s.lowestEmpty with
      | none => s.reply p r .tableFull []
      | some i => (s.writeRecord i (newRecord (r.word 1) p body)).reply p r .done [s.handleOf i]

/-- CREATE (R14). -/
def execCreate (p : Port) (s : State) : Host.Outcome State Fault Refusal := .next (s.onTurn p .create takeCreate)

/-! ### RETIRE and the drain (R16 to R19) -/

/-- The body with its waiter queue emptied (R17, step 1). -/
def Body.withoutWaiters : Body → Body
  | .pool b => .pool { b with waiters := [] }
  | .counter b => .counter b
  | .flags b => .flags b
  | .sequence b => .sequence b

/-- RETIRE on its record: with no commitments the slot empties at once and the answer is DONE (R16); else the waiters are
answered CLOSED, the record becomes CLOSING and the RETIRE is held (R17). -/
def actRetire (i : Slot) (rec : Record) (p : Port) (r : Request) (s : State) : State :=
  if rec.committed then
    s.finishEvent i rec
      { rec with state := .closing, held := .pending p r.tag, body := rec.body.withoutWaiters }
      (closedResponses rec.body)
  else (s.emptySlot i rec rec .done).reply p r .done []

/-- RETIRE (R16): owner-only. -/
def execRetire (p : Port) (s : State) : Host.Outcome State Fault Refusal :=
  .next (s.onTurn p .retire (State.withRecord ⟨fun _ => true, true, false⟩ actRetire))

/-- The drain of the record in slot `i` completes, when the record is CLOSING and its last commitment has gone (R19). -/
def State.completeDrain (i : Slot) (s : State) : State :=
  match (s.slot i).record with
  | none => s
  | some r => if r.state = .closing ∧ r.committed = false then s.emptySlot i r r .done else s

/-- The Record Table takes events: out of reset and READY (R171). -/
def State.tableActive (s : State) : Bool := !s.resetAsserted && s.condition == .ready

/-- DRAIN_COMPLETION (R19). Every event that removes a last commitment completes the drain itself, so this event by itself
finds one to complete only in a state no run reaches (notes/assumptions/15.md). -/
def execDrainCompletion (i : Slot) (s : State) : Host.Outcome State Fault Refusal :=
  .next (if s.tableActive then s.completeDrain i else s)

/-! ### ADOPT, READ, WATCH, ASSIGN-LINE (R21 to R25) -/

/-- ADOPT on a LIVE record: OWNED when it has an owner, else the port becomes the owner (R21). -/
def actAdopt (i : Slot) (rec : Record) (p : Port) (r : Request) (s : State) : State :=
  if rec.owner.isSome then s.reply p r .owned []
  else (s.writeRecord i { rec with owner := some p }).reply p r .done []

/-- ADOPT (R21). -/
def execAdopt (p : Port) (s : State) : Host.Outcome State Fault Refusal :=
  .next (s.onTurn p .adopt (State.withRecord ⟨fun _ => true, false, false⟩ actAdopt))

/-- READ on its record (R22). -/
def actRead (_i : Slot) (rec : Record) (p : Port) (r : Request) (s : State) : State :=
  s.reply p r .done (readAnswer (r.word 0) rec p)

/-- READ (R22): allowed on a CLOSING record. -/
def execRead (p : Port) (s : State) : Host.Outcome State Fault Refusal :=
  .next (s.onTurn p .read (State.withRecord ⟨fun _ => true, false, true⟩ actRead))

/-- WATCH on its record: BAD-REQUEST for a word that names no mode, else the port's mode is set (R25, R116). -/
def actWatch (i : Slot) (rec : Record) (p : Port) (r : Request) (s : State) : State :=
  match modeOfWord (r.word 1) with
  | none => s.reply p r .badRequest []
  | some mode => (s.writeRecord i { rec with watch := rec.watch.set p.val mode }).reply p r .done []

/-- WATCH (R116): allowed on a CLOSING record. -/
def execWatch (p : Port) (s : State) : Host.Outcome State Fault Refusal :=
  .next (s.onTurn p .watch (State.withRecord ⟨fun _ => true, false, true⟩ actWatch))

/-- ASSIGN-LINE on its record: the old line's count falls if the record contributed, then the new line's count rises if it
contributes under the new assignment (R24, R128). -/
def actAssignLine (i : Slot) (rec : Record) (p : Port) (r : Request) (s : State) : State :=
  match assignmentOfWord (r.word 1) with
  | none => s.reply p r .badRequest []
  | some line =>
    (((s.withdrawLine rec.line rec.inAlert).enterLine line rec.inAlert).writeRecord i { rec with line := line }).reply
      p r .done []

/-- ASSIGN_LINE (R128): owner-only. -/
def execAssignLine (p : Port) (s : State) : Host.Outcome State Fault Refusal :=
  .next (s.onTurn p .assignLine (State.withRecord ⟨fun _ => true, true, false⟩ actAssignLine))

/-! ### LIMITS (R23) -/

/-- The kinds a LIMITS may name: a COUNTER with 5 words, the other kinds with 2 (R23). -/
def limitsKindOk (r : Request) (k : Kind) : Bool := (k == .counter) == (r.words.length == 5)

/-- LIMITS on its record, by its kind: the low mark of a POOL (R59) or a SEQUENCE (R114), the alert mask of a FLAGS record
(R105), the range and marks of a COUNTER (R95, R96). -/
def actLimits (i : Slot) (rec : Record) (p : Port) (r : Request) (s : State) : State :=
  match rec.body with
  | .pool b => s.finishEvent i rec { rec with body := .pool { b with lowMark := (r.word 1).toNat } } [(p, answer r .done [])]
  | .flags b => s.finishEvent i rec { rec with body := .flags { b with alertMask := r.word 1 } } [(p, answer r .done [])]
  | .sequence b =>
    s.finishEvent i rec { rec with body := .sequence { b with lowMark := (r.word 1).toNat } } [(p, answer r .done [])]
  | .counter c => actCounterLimits i rec c p r s

/-- LIMITS taken from port `p`: its form is fixed by the number of words staged (R23); owner-only. -/
def takeLimits (p : Port) (r : Request) (s : State) : State :=
  s.withRecord ⟨limitsKindOk r, true, false⟩ actLimits p r

/-- LIMITS (R23). -/
def execLimits (p : Port) (s : State) : Host.Outcome State Fault Refusal := .next (s.onTurn p .limits takeLimits)

end Sys2Proof.Machine
end

