-- ==== Sys2Proof/Machine/Waiting.lean ====
section
/-! DEFINITION. Waiters and the Wait Clock (04): GRANT, CANCEL, UNIT_BOUNDARY, the passing of REFCLK, and EXPIRY. -/

namespace Sys2Proof.Machine

/-! ### The end of waiters other than by grant -/

/-- The waiters that meet `q` end other than by grant, and when the head of the queue was among them the grant cascade runs
on the new head (R72, R78, R79). -/
def Pool.endAndCascade (q : Waiter → Bool) (b : Pool) : Pool × List (Port × Response) :=
  if b.waiters.head?.any q then (b.endWaiters q).cascade else (b.endWaiters q, [])

/-- One event ends the waiters of a POOL record that meet `q`, each answered with `result`; `after` are the responses the
event places behind those of the waiters (R12). -/
def State.endWaitersEvent (i : Slot) (rec : Record) (b : Pool) (q : Waiter → Bool) (result : ResultCode)
    (after : List (Port × Response)) (s : State) : State :=
  s.finishEvent i rec { rec with body := .pool (b.endAndCascade q).1 }
    (mergeResponses q (some result) b.waiters (b.endAndCascade q).2 ++ after)

/-! ### GRANT (R73) -/

/-- The head waiter of the POOL record in slot `i` is granted, when its units do not exceed the level (R73). -/
def State.grantAt (i : Slot) (s : State) : State :=
  match (s.slot i).record with
  | none => s
  | some rec =>
    match rec.body with
    | .pool b =>
      match b.waiters with
      | [] => s
      | w :: rest =>
        if w.units ≤ b.level then
          s.finishEvent i rec { rec with body := .pool (b.grantHead w rest) } [grantResponse w (b.grantHead w rest)]
        else s
    | .counter _ | .flags _ | .sequence _ => s

/-- GRANT (R73) of the head waiter of the record in slot `i`. Every event that could leave a head servable runs the cascade
itself (R65), so this event by itself finds a head to grant only in a state no run reaches (notes/assumptions/15.md). -/
def execGrant (i : Slot) (s : State) : Host.Outcome State Fault Refusal :=
  .next (if s.tableActive then s.grantAt i else s)

/-! ### CANCEL (R79) -/

/-- The waiters of port `p` under the tag `t`. -/
def isWaiter (p : Port) (t : Tag) (w : Waiter) : Bool := w.port == p && w.tag == t

/-- The slot on whose record port `p` has a waiter with the tag `t` (R79); a port's tags are distinct, so there is at most
one. -/
def State.slotOfWaiter (s : State) (p : Port) (t : Tag) : Option Slot :=
  allSlots.find? (fun i => (s.slot i).waiters.any (isWaiter p t))

/-- The waiter with the tag `t` of port `p` on the record of slot `i` ends with CANCELLED, and the CANCEL is answered DONE
(R79). -/
def State.cancelAt (i : Slot) (t : Tag) (p : Port) (r : Request) (s : State) : State :=
  match (s.slot i).record with
  | none => s.reply p r .notFound []
  | some rec =>
    match rec.body with
    | .pool b => s.endWaitersEvent i rec b (isWaiter p t) .cancelled [(p, answer r .done [])]
    | .counter _ | .flags _ | .sequence _ => s.reply p r .notFound []

/-- CANCEL taken from port `p` (R79): BAD-REQUEST for a target word above 15, NOT-FOUND without a waiter of that tag. -/
def takeCancel (p : Port) (r : Request) (s : State) : State :=
  if 15 < (r.word 0).toNat then s.reply p r .badRequest []
  else
    match s.slotOfWaiter p (BitVec.ofNat 4 (r.word 0).toNat) with
    | none => s.reply p r .notFound []
    | some i => s.cancelAt i (BitVec.ofNat 4 (r.word 0).toNat) p r

/-- CANCEL (R79). -/
def execCancel (p : Port) (s : State) : Host.Outcome State Fault Refusal := .next (s.onTurn p .cancel takeCancel)

/-! ### The Wait Clock (R75, R77) -/

/-- A waiter at a unit boundary: a timeout remaining of 1 or more falls by one (R77). -/
def Waiter.countDown (w : Waiter) : Waiter := { w with timeout := w.timeout.map (· - 1) }

/-- The waiter's count reaches 0 at this boundary (R77). -/
def Waiter.expiresNow (w : Waiter) : Bool := w.timeout == some 1

/-- The waiters of a body at a unit boundary (R77). -/
def Body.countDown : Body → Body
  | .pool b => .pool { b with waiters := b.waiters.map Waiter.countDown }
  | .counter b => .counter b
  | .flags b => .flags b
  | .sequence b => .sequence b

/-- A slot at a unit boundary (R77). -/
def SlotState.countDown (x : SlotState) : SlotState :=
  { x with record := x.record.map fun r => { r with body := r.body.countDown } }

/-- The expiry events that a boundary hands on: one for each record on which a waiter expires, unless one for that record is
still to be taken (R78). -/
def State.newExpiries (s : State) : List (Slot × Gen) :=
  (allSlots.filter fun i =>
    (s.slot i).waiters.any Waiter.expiresNow && !s.expiryEvents.contains (i, (s.slot i).gen)).map
      fun i => (i, (s.slot i).gen)

/-- The end of a wait unit: the boundary reaches the waiters while the device is READY (R77, R171), and a new unit starts
(R75). -/
def State.boundary (s : State) : State :=
  if s.condition = .ready then
    { s with slots := s.slots.map SlotState.countDown, expiryEvents := s.expiryEvents ++ s.newExpiries, unitPos := 0 }
  else { s with unitPos := 0 }

/-- UNIT_BOUNDARY (R77): time passes to the end of the current unit (notes/assumptions/7.md). The clock is held while RESET
is asserted (R168). -/
def execUnitBoundary (s : State) : Host.Outcome State Fault Refusal := .next (if s.resetAsserted then s else s.boundary)

/-- The periods of REFCLK in a wait unit (10.8). -/
def WaitUnit.periods : WaitUnit → Nat
  | .us100 => 1000
  | .ms1 => 10000
  | .ms10 => 100000

/-- One period of REFCLK passes (R75; notes/assumptions/6.md). -/
def State.tick (s : State) : State :=
  if s.resetAsserted then s
  else if s.unitPos + 1 < s.waitUnit.periods then { s with unitPos := s.unitPos + 1 }
  else s.boundary

/-! ### EXPIRY (R78) -/

/-- The waiter's timeout remaining is 0 (R78). -/
def Waiter.expired (w : Waiter) : Bool := w.timeout == some 0

/-- The expiry event acts on the record of slot `i`, if the slot still holds the generation `g` (R78). -/
def State.expireAt (i : Slot) (g : Gen) (s : State) : State :=
  match (s.slot i).record with
  | none => s
  | some rec =>
    match rec.body with
    | .pool b => if (s.slot i).gen = g then s.endWaitersEvent i rec b Waiter.expired .timeout [] else s
    | .counter _ | .flags _ | .sequence _ => s

/-- EXPIRY (R78): the expiry event handed on for the record of slot `i` at generation `g` is taken. -/
def execExpiry (i : Slot) (g : Gen) (s : State) : Host.Outcome State Fault Refusal :=
  .next (if s.tableActive && s.expiryEvents.contains (i, g) then
    ({ s with expiryEvents := s.expiryEvents.erase (i, g) } : State).expireAt i g else s)

end Sys2Proof.Machine
end

