-- ==== Sys2Proof/Machine/Reclaim.lean ====
section
/-! DEFINITION. Port reset and reclaim (08): the port reset that PRST_ASSERTION, PORT_RESET and DETACH share, and
WALK_STEP. -/

namespace Sys2Proof.Machine

/-! ### The port reset (R154, R158, R159) -/

/-- A port reset leaves the port's own state as at device reset but for its mode, and the data pins carry what they carried
(R152). -/
def PortState.cleared (mode : PortMode) (q : PortState) : PortState :=
  { PortState.reset with mode := mode, dataOut := q.dataOut }

/-- The waiters of port `p`. -/
def ofPort (p : Port) (w : Waiter) : Bool := w.port == p

/-- One event of the entry into DRAINING on the record in slot `i` (R82): the port's waiters leave the queue without a
response, their entries and reservations become free, and the cascade runs. A record where the port has no waiter is left as
it is. -/
def State.dropWaitersAt (p : Port) (s : State) (i : Slot) : State :=
  match (s.slot i).record with
  | none => s
  | some rec =>
    match rec.body with
    | .pool b =>
      if b.waiters.any (ofPort p) then
        let c := (b.endWaiters (ofPort p)).cascade
        s.finishEvent i rec { rec with body := .pool c.1 } (mergeResponses (ofPort p) none b.waiters c.2)
      else s
    | .counter _ | .flags _ | .sequence _ => s

/-- The entry's events on every record, in ascending slot order; they need no order among themselves (R82). -/
def State.dropWaiters (p : Port) (s : State) : State := allSlots.foldl (State.dropWaitersAt p) s

/-- A held RETIRE of port `p` that is pending becomes discarded (R20). -/
def HeldRetire.discardOf (p : Port) : HeldRetire → HeldRetire
  | .pending q t => if q = p then .discarded else .pending q t
  | .absent => .absent
  | .discarded => .discarded

/-- What the entry of port `p` does to a record's header: the held RETIRE (R20) and the port's watch mode (R116). -/
def Record.forget (p : Port) (r : Record) : Record :=
  { r with held := r.held.discardOf p, watch := r.watch.set p.val .off }

/-- The entry of port `p` on the header in a slot (R20, R116). -/
def SlotState.forget (p : Port) (x : SlotState) : SlotState := { x with record := x.record.map (Record.forget p) }

/-- An ONLINE or FENCED port enters DRAINING (R158): at the port, at the Wait Queue, at the Record Table, at the Notice Unit
and at the Reclaim Walker. -/
def State.enterDraining (p : Port) (s : State) : State :=
  let s := (s.modifyPort p (PortState.cleared .draining)).dropWaiters p
  { s with
    slots := s.slots.map (SlotState.forget p)
    changed := s.changed.set p.val []
    cursors := s.cursors.set p.val 0 }

/-- A port reset reaches port `p` (R154): it is ignored while the port is DRAINING; on an OFFLINE port it enters and leaves
DRAINING in one event, with RECLAIM-DONE (R159); else the port enters DRAINING (R158). -/
def State.portReset (p : Port) (s : State) : State :=
  match (s.port p).mode with
  | .draining => s
  | .offline => (s.modifyPort p (PortState.cleared .offline)).setReason (reasonReclaimDone p)
  | .online | .fenced => s.enterDraining p

/-- PRST_ASSERTION (R155). -/
def execPrstAssertion (p : Port) (s : State) : Host.Outcome State Fault Refusal :=
  .next (s.outOfReset (State.portReset p))

/-- DETACH taken from port `p`: the turn makes the port reset, and places no response (R157). -/
def takeDetach (p : Port) (_r : Request) (s : State) : State := s.portReset p

/-- DETACH (R157). -/
def execDetach (p : Port) (s : State) : Host.Outcome State Fault Refusal := .next (s.onTurn p .detach takeDetach)

/-! ### The walk (R160 to R164) -/

/-- The draining port at or after the service position that the Walker serves (R160). -/
def State.walkPort (s : State) : Option Port :=
  [s.servicePos, s.servicePos + 1, s.servicePos + 2, s.servicePos + 3].find? s.walking

/-- What a walk step for port `p` makes of a body, with the responses of the cascade (R161): a POOL gets the port's entry back
(R54), a FLAGS record loses the port's claims (R107). -/
def Body.reclaim (p : Port) : Body → Body × List (Port × Response)
  | .pool b =>
    if b.lists p then (.pool (b.giveBack p (b.unitsOf p)).cascade.1, (b.giveBack p (b.unitsOf p)).cascade.2)
    else (.pool b, [])
  | .flags b => (.flags (b.reclaim p), [])
  | .counter b => (.counter b, [])
  | .sequence b => (.sequence b, [])

/-- The record after a walk step for port `p`: its body reclaimed, and its owner absent if the port owned it (R161). -/
def Record.reclaim (p : Port) (r : Record) : Record :=
  { r with body := (r.body.reclaim p).1, owner := if r.owner = some p then none else r.owner }

/-- The walk step for port `p` acts on slot `i` (R161, R162). -/
def State.reclaimSlot (p : Port) (i : Slot) (s : State) : State :=
  match (s.slot i).record with
  | none => s
  | some r => s.finishEvent i r (r.reclaim p) (r.body.reclaim p).2

/-- The cursor of port `p` advances from `n`; from 255 the port leaves DRAINING for OFFLINE and RECLAIM-DONE is set (R163). -/
def State.advanceCursor (p : Port) (n : Nat) (s : State) : State :=
  let s := { s with cursors := s.cursors.set p.val (n + 1) }
  if n + 1 < Config.slotCount then s
  else (s.modifyPort p fun q => { q with mode := .offline }).setReason (reasonReclaimDone p)

/-- A walk step for port `p`: the slot its cursor names, then the cursor and the service position (R160, R161, R163). -/
def State.walkStepFor (p : Port) (s : State) : State :=
  let n := s.cursors[p.val]
  let s := (s.reclaimSlot p (Fin.ofNat 256 n)).advanceCursor p n
  { s with servicePos := p + 1 }

/-- The turn of the Walker: the rotation position moves on (R150), and one step is carried out for one port (R160). In a state
whose next turn is not the Walker's nothing happens (notes/assumptions/1.md). -/
def State.walkTurn (s : State) : State :=
  if s.turn = some .walker then
    match s.walkPort with
    | some p => (s.serve .walker).walkStepFor p
    | none => s
  else s

/-- WALK_STEP (R161). -/
def execWalkStep (s : State) : Host.Outcome State Fault Refusal := .next s.walkTurn

end Sys2Proof.Machine
end

