-- ==== Sys2Proof/Machine/Resets.lean ====
section
/-! DEFINITION. Device reset, power-on and the self-check (09 sections 9.1 and 9.2). -/

namespace Sys2Proof.Machine

/-- Device reset: every block takes its reset value (R168). The queue of commands and the level of the chip-select pin are
outside the part and stay (notes/assumptions/28.md); `asserted` is the level of RESET afterwards. -/
def State.deviceReset (asserted : Bool) (s : State) : State :=
  { State.reset with resetAsserted := asserted, chipSelect := s.chipSelect, pending := s.pending }

/-- DEVICE_RESET (R168): RESET is asserted, and stays asserted until SELF_CHECK releases it. -/
def execDeviceReset (s : State) : Host.Outcome State Fault Refusal := .next (s.deviceReset true)

/-- POWER_ON (R168): a device reset, with RESET asserted or not as power comes on (notes/assumptions/4.md). -/
def execPowerOn (resetHeld : Bool) (s : State) : Host.Outcome State Fault Refusal := .next (s.deviceReset resetHeld)

/-- A memory joins the failed-area set (R169). -/
def FailedAreas.add (a : Area) (f : FailedAreas) : FailedAreas :=
  match a with
  | .slot => { f with slot := true }
  | .holding => { f with holding := true }
  | .waiter => { f with waiter := true }

/-- The self-check pass is under way: RESET is deasserted and the condition is CHECKING (R168, R169). -/
def State.checking (s : State) : Bool := !s.resetAsserted && s.condition == .checking

/-- SELF_CHECK (R169): RESET is deasserted and the pass begins, or a word of one memory reads back other than as written. -/
def execSelfCheck (e : SelfCheckEvent) (s : State) : Host.Outcome State Fault Refusal :=
  match e with
  | .resetReleased => .next { s with resetAsserted := false }
  | .wordFailed a => .next (if s.checking then { s with failedAreas := s.failedAreas.add a } else s)

/-- Some memory is in the failed-area set (R170). -/
def FailedAreas.any (f : FailedAreas) : Bool := f.slot || f.holding || f.waiter

/-- The three memories hold their reset values at the end of the pass, whatever the outcome (R169). -/
def State.memoriesReset (s : State) : State :=
  { s with
    slots := Vector.replicate 256 SlotState.reset
    freeHoldings := Config.holdingEntries
    freeWaiters := Config.waiterEntries }

/-- The end of the self-check (R169, R170). -/
def State.endSelfCheck (s : State) : State :=
  if s.failedAreas.any then ({ s.memoriesReset with condition := .failed } : State).setReason reasonCheckFailed
  else ({ s.memoriesReset with condition := .ready } : State).setReason reasonCheckDone

/-- SELF_CHECK_END (R170). -/
def execSelfCheckEnd (s : State) : Host.Outcome State Fault Refusal :=
  .next (if s.checking then s.endSelfCheck else s)

end Sys2Proof.Machine
end

