-- ==== Sys2Proof/Machine/Link.lean ====
section
/-! DEFINITION. The maintenance link (09 sections 9.4 to 9.9): frames, the taking of a command, and each command. -/

namespace Sys2Proof.Machine

/-! ### Frames (R172, R173) -/

/-- Chip select is asserted: it opens a frame in the command phase, unless the device is in reset or chip select was asserted
already (R172). -/
def State.openFrame (s : State) : State :=
  if s.chipSelect then s
  else if s.resetAsserted then { s with chipSelect := true }
  else { s with chipSelect := true, frame := .command, sdo := none }

/-- FRAME_START (R172). -/
def execFrameStart (s : State) : Host.Outcome State Fault Refusal := .next s.openFrame

/-- FRAME_END (R172): a frame whose command is not taken is discarded, one whose command is taken ends; SDO is high-impedance
(10.8). A PURGE or a CLEAR-TABLE that has been taken goes on (R178, R180). -/
def execFrameEnd (s : State) : Host.Outcome State Fault Refusal :=
  .next { s with chipSelect := false, frame := .idle, sdo := none }

/-- A command is answered: the response phase begins at its first byte, and the byte clocked out meanwhile is the idle byte
(R172). -/
def State.respond (st : LinkStatus) (data : List Byte) (s : State) : State :=
  { s with frame := .response (some st) data 0, sdo := some idleByte }

/-- A command whose status is to come enters the response phase (R173). -/
def State.respondLater (s : State) : State := { s with frame := .response none [] 0, sdo := some idleByte }

/-- The work of a PURGE or CLEAR-TABLE is done: its frame, if still open, gets the status (R173). A response without a status
can only be that of the command whose work this is, because the link takes a later command after it (R178, R174). -/
def State.deliver (st : LinkStatus) (s : State) : State :=
  match s.frame with
  | .response none data pos => { s with frame := .response (some st) data pos }
  | .response (some _) _ _ | .idle | .command | .argument _ => s

/-! ### The event of a PURGE, and of CLEAR-TABLE on a slot (R178, R179) -/

/-- A PURGE's event on slot `i` (R178): RANGE on an EMPTY slot, else the slot empties by R26. -/
def State.purgeSlotNow (i : Slot) (s : State) : State :=
  match (s.slot i).record with
  | none => s.deliver .range
  | some r => (s.emptySlot i r r .purged).deliver .ok

/-- The event that a deferred PURGE still owes, if there is one (R178). -/
def State.settlePurge (s : State) : State :=
  match s.purgeSlot with
  | none => s
  | some i => ({ s with purgeSlot := none } : State).purgeSlotNow i

/-- The clear deals with slot `i`: a LIVE or CLOSING slot is emptied as a PURGE would empty it, an EMPTY one is passed over
(R179). -/
def State.clearOne (i : Slot) (s : State) : State :=
  match (s.slot i).record with
  | none => s
  | some r => s.emptySlot i r r .purged

/-- The clear goes on to the slot after `i`; after slot 255 it ends, and the status is OK (R179). -/
def State.advanceClear (i : Slot) (s : State) : State :=
  if i.val = 255 then ({ s with clear := none } : State).deliver .ok else { s with clear := some (i + 1) }

/-- CLEAR_TABLE_SLOT (R179); with no clear in progress nothing happens (notes/assumptions/1.md). -/
def execClearTableSlot (s : State) : Host.Outcome State Fault Refusal :=
  .next (match s.clear with
    | none => s
    | some i => s.outOfReset fun s => (s.clearOne i).advanceClear i)

/-! ### Taking a command (R172, R174) -/

/-- The first three checks of R174. -/
def State.linkRefusal (c : LinkCommand) (s : State) : Option LinkStatus :=
  if s.condition = .checking ∧ c ≠ .status then some .notReady
  else if s.condition = .failed ∧ c ≠ .status ∧ c ≠ .setMattnMask then some .fault
  else if s.clear.isSome ∧ c ≠ .status ∧ c ≠ .counts then some .busy
  else none

/-- A known command is taken: after a PURGE of an earlier frame (R178), it is refused by the first three checks of R174 or
executed by `act`. -/
def State.takeCommand (c : LinkCommand) (act : State → State) (s : State) : State :=
  let s := s.settlePurge
  match s.linkRefusal c with
  | some st => s.respond st []
  | none => act s

/-- A command without argument is taken at its command byte (R172); in a state without a frame in its command phase nothing
happens (notes/assumptions/1.md). -/
def State.onCommand (c : LinkCommand) (act : State → State) (s : State) : State :=
  if s.frame = .command then s.outOfReset (State.takeCommand c act) else s

/-- A command with an argument is taken at its argument byte (R172); in a state whose frame does not wait for it nothing
happens (notes/assumptions/1.md). -/
def State.onArgument (c : LinkCommand) (act : State → State) (s : State) : State :=
  if s.frame = .argument c then s.outOfReset (State.takeCommand c act) else s

/-! ### The commands -/

/-- STATUS executed (R175). -/
def State.doStatus (s : State) : State := s.respond .ok s.statusBytes

/-- STATUS (R175). -/
def execStatus (s : State) : Host.Outcome State Fault Refusal := .next (s.onCommand .status State.doStatus)

/-- COUNTS executed (R176). -/
def State.doCounts (s : State) : State := s.respond .ok s.countsBytes

/-- COUNTS (R176). -/
def execCounts (s : State) : Host.Outcome State Fault Refusal := .next (s.onCommand .counts State.doCounts)

/-- The slot an argument byte names; every byte names one (R187). -/
def slotOfByte (b : Byte) : Slot := b.toFin

/-- READ-RECORD executed (R177). -/
def State.doReadRecord (b : Byte) (s : State) : State := s.respond .ok (s.slot (slotOfByte b)).recordBytes

/-- READ_RECORD (R177). -/
def execReadRecord (b : Byte) (s : State) : Host.Outcome State Fault Refusal :=
  .next (s.onArgument .readRecord (State.doReadRecord b))

/-- A PURGE taken with its event at once (R178). -/
def State.doPurge (b : Byte) (s : State) : State := s.respondLater.purgeSlotNow (slotOfByte b)

/-- A PURGE taken while another event is in progress at the Record Table: its own is still to come (R178). -/
def State.deferPurge (b : Byte) (s : State) : State := { s.respondLater with purgeSlot := some (slotOfByte b) }

/-- PURGE (R178), at one of its moments (notes/assumptions/17.md). -/
def execPurge (m : PurgeMoment) (s : State) : Host.Outcome State Fault Refusal :=
  match m with
  | .atOnce b => .next (s.onArgument .purge (State.doPurge b))
  | .deferred b => .next (s.onArgument .purge (State.deferPurge b))
  | .work => .next (s.outOfReset State.settlePurge)

/-- CLEAR-TABLE executed: the clear begins at slot 0 (R179). -/
def State.doClearTable (s : State) : State := { s.respondLater with clear := some 0 }

/-- CLEAR_TABLE (R179). -/
def execClearTable (s : State) : Host.Outcome State Fault Refusal := .next (s.onCommand .clearTable State.doClearTable)

/-- The port an argument byte names, if it is one of 0 to 3 (R174, R187). -/
def portOfByte (b : Byte) : Option Port := if h : b.toNat < 4 then some ⟨b.toNat, h⟩ else none

/-- A command on the port its argument names; RANGE for a byte that names none (R174, fourth check). -/
def State.onPort (b : Byte) (act : Port → State → State) (s : State) : State :=
  match portOfByte b with
  | none => s.respond .range []
  | some p => act p s

/-- The port's mode becomes `mode`. -/
def State.setMode (p : Port) (mode : PortMode) (s : State) : State := s.modifyPort p fun q => { q with mode := mode }

/-- FENCE of port `p` (R181). -/
def State.doFence (p : Port) (s : State) : State :=
  if (s.port p).mode = .online then (s.setMode p .fenced).respond .ok [] else s.respond .busy []

/-- FENCE (R181). -/
def execFence (b : Byte) (s : State) : Host.Outcome State Fault Refusal :=
  .next (s.onArgument .fence (State.onPort b State.doFence))

/-- UNFENCE of port `p` (R181). -/
def State.doUnfence (p : Port) (s : State) : State :=
  if (s.port p).mode = .fenced then (s.setMode p .online).respond .ok [] else s.respond .busy []

/-- UNFENCE (R181). -/
def execUnfence (b : Byte) (s : State) : Host.Outcome State Fault Refusal :=
  .next (s.onArgument .unfence (State.onPort b State.doUnfence))

/-- PORT-RESET of port `p` (R156): BUSY while it is DRAINING. -/
def State.doPortReset (p : Port) (s : State) : State :=
  if (s.port p).mode = .draining then s.respond .busy [] else (s.portReset p).respond .ok []

/-- PORT_RESET (R156). -/
def execPortReset (b : Byte) (s : State) : Host.Outcome State Fault Refusal :=
  .next (s.onArgument .portReset (State.onPort b State.doPortReset))

/-- SET-WAIT-UNIT executed (R76): RANGE for another code, BUSY while a waiter exists, else a new unit of the named length
starts. -/
def State.doSetWaitUnit (b : Byte) (s : State) : State :=
  match WaitUnit.ofCode b.toNat with
  | none => s.respond .range []
  | some u =>
    if s.waiterExists then s.respond .busy [] else ({ s with waitUnit := u, unitPos := 0 } : State).respond .ok []

/-- SET_WAIT_UNIT (R76). -/
def execSetWaitUnit (b : Byte) (s : State) : Host.Outcome State Fault Refusal :=
  .next (s.onArgument .setWaitUnit (State.doSetWaitUnit b))

/-- SET-MATTN-MASK executed (R183). -/
def State.doSetMattnMask (b : Byte) (s : State) : State := ({ s with mattnMask := b } : State).respond .ok []

/-- SET_MATTN_MASK (R183). -/
def execSetMattnMask (b : Byte) (s : State) : Host.Outcome State Fault Refusal :=
  .next (s.onArgument .setMattnMask (State.doSetMattnMask b))

/-- CLEAR-MATTN executed (R182). -/
def State.doClearMattn (b : Byte) (s : State) : State :=
  ({ s with mattnReasons := s.mattnReasons &&& ~~~b } : State).respond .ok []

/-- CLEAR_MATTN (R182). -/
def execClearMattn (b : Byte) (s : State) : Host.Outcome State Fault Refusal :=
  .next (s.onArgument .clearMattn (State.doClearMattn b))

/-! ### The bytes of a frame (R172, R173) -/

/-- A byte that names no command is taken as a command without argument and answered RANGE (R172). -/
def State.takeUnknown (s : State) : State := s.settlePurge.respond .range []

/-- The byte of a command with an argument is received: the argument phase begins (R172). -/
def State.expectArgument (c : LinkCommand) (s : State) : State := { s with frame := .argument c, sdo := some idleByte }

/-- A byte received in the command phase (R172). -/
def State.takeCommandByte (b : Byte) (s : State) : State :=
  match LinkCommand.ofByte b with
  | none => s.takeUnknown
  | some .status => s.takeCommand .status State.doStatus
  | some .counts => s.takeCommand .counts State.doCounts
  | some .clearTable => s.takeCommand .clearTable State.doClearTable
  | some c => s.expectArgument c

/-- COMMAND_BYTE (R172): the byte of a command that takes an argument. -/
def execCommandByte (b : Byte) (s : State) : Host.Outcome State Fault Refusal :=
  .next (if s.frame = .command then s.outOfReset (State.takeCommandByte b) else s)

/-- UNKNOWN_COMMAND (R172): a byte that names no command. -/
def execUnknownCommand (b : Byte) (s : State) : Host.Outcome State Fault Refusal :=
  .next (if s.frame = .command then s.outOfReset (State.takeCommandByte b) else s)

/-- The position in the response after a byte is clocked out: it stays before the status, and past the last byte (R173). -/
def nextPosition (status : Option LinkStatus) (data : List Byte) (pos : Nat) : Nat :=
  if status.isSome ∧ pos ≤ data.length then pos + 1 else pos

/-- A byte is clocked in the response phase: the byte clocked in is ignored, the byte clocked out is the next of the
response (R172, R173). -/
def State.clockResponse (s : State) : State :=
  match s.frame with
  | .response st data pos =>
    { s with frame := .response st data (nextPosition st data pos), sdo := some (responseByte st data pos) }
  | .idle | .command | .argument _ => s

/-- RESPONSE_PHASE_BYTE (R173). -/
def execResponsePhaseByte (_b : Byte) (s : State) : Host.Outcome State Fault Refusal :=
  .next (s.outOfReset State.clockResponse)

end Sys2Proof.Machine
end

