-- ==== Sys2Proof/Machine/Notices.lean ====
section
/-! DEFINITION. The requests of the Notice Unit and the Alert Line Unit that name no record (06): NEXT_NOTICE and
READ_LINES. -/

namespace Sys2Proof.Machine

/-- The data words of a NEXT-NOTICE: the entry's slot and generation as a handle word, and its reasons (R122). -/
def ChangedEntry.words (e : ChangedEntry) : List Word := [handleWord e.slot e.gen, e.reasons.toWord]

/-- NEXT-NOTICE taken from port `p`: NONE with an empty set, else the entry with the lowest slot number leaves the set, which
stands in slot order, and is the answer (R122). -/
def takeNextNotice (p : Port) (r : Request) (s : State) : State :=
  match s.changed[p.val] with
  | [] => s.reply p r .none []
  | e :: rest => ({ s with changed := s.changed.set p.val rest } : State).reply p r .done e.words

/-- NEXT_NOTICE (R122). -/
def execNextNotice (p : Port) (s : State) : Host.Outcome State Fault Refusal :=
  .next (s.onTurn p .nextNotice takeNextNotice)

/-- READ-LINES taken from port `p`: one word for each line, line 0 first (R131). -/
def takeReadLines (p : Port) (r : Request) (s : State) : State :=
  s.reply p r .done (s.lineCounts.toList.map lineWord)

/-- READ_LINES (R131). -/
def execReadLines (p : Port) (s : State) : Host.Outcome State Fault Refusal :=
  .next (s.onTurn p .readLines takeReadLines)

end Sys2Proof.Machine
end

