-- ==== Sys2Proof/Machine/Sequences.lean ====
section
/-! DEFINITION. SEQUENCE records (05 section 5.3): NEXT and REFILL. -/

namespace Sys2Proof.Machine

/-- A SEQUENCE request acts on the SEQUENCE it names; R4's kind check has answered the other kinds. -/
def onSequence (act : Slot → Record → Sequence → Port → Request → State → State)
    (i : Slot) (rec : Record) (p : Port) (r : Request) (s : State) : State :=
  match rec.body with
  | .sequence b => act i rec b p r s
  | .pool _ | .counter _ | .flags _ => s.reply p r .wrongKind []

/-- `n` values are issued: next advances by n times the step, modulo 65536, and remaining falls by n (R110, R111). -/
def Sequence.issue (n : Nat) (b : Sequence) : Sequence :=
  { b with next := b.next + intWord (n * b.step), remaining := b.remaining - n }

/-- NEXT on its SEQUENCE (R110). -/
def actNext (i : Slot) (rec : Record) (b : Sequence) (p : Port) (r : Request) (s : State) : State :=
  let n := (r.word 1).toNat
  if n = 0 ∨ Config.maxNextCount < n then s.reply p r .badRequest []
  else if b.remaining < n then s.reply p r .exhausted [natWord b.remaining]
  else
    s.finishEvent i rec { rec with body := .sequence (b.issue n) }
      [(p, answer r .done [b.next, natWord (b.issue n).remaining])]

/-- NEXT (R110). -/
def execNext (p : Port) (s : State) : Host.Outcome State Fault Refusal :=
  .next (s.onTurn p .next (State.withRecord ⟨fun k => k == .sequence, false, false⟩ (onSequence actNext)))

/-- REFILL on its SEQUENCE: remaining becomes the count (R113). -/
def actRefill (i : Slot) (rec : Record) (b : Sequence) (p : Port) (r : Request) (s : State) : State :=
  s.finishEvent i rec { rec with body := .sequence { b with remaining := (r.word 1).toNat } }
    [(p, answer r .done [b.next])]

/-- REFILL (R113): owner-only. -/
def execRefill (p : Port) (s : State) : Host.Outcome State Fault Refusal :=
  .next (s.onTurn p .refill (State.withRecord ⟨fun k => k == .sequence, true, false⟩ (onSequence actRefill)))

end Sys2Proof.Machine
end

