-- ==== Sys2Proof/Machine/Dispatch.lean ====
section
/-! DEFINITION. One arm for each command: its meaning. -/

namespace Sys2Proof.Machine

def exec (i : Instr) (s : State) : Host.Outcome State Fault Refusal :=
  match i with
  | .deviceReset => Sys2Proof.Machine.execDeviceReset s
  | .powerOn resetHeld => Sys2Proof.Machine.execPowerOn resetHeld s
  | .selfCheck e => Sys2Proof.Machine.execSelfCheck e s
  | .selfCheckEnd => Sys2Proof.Machine.execSelfCheckEnd s
  | .stageWrite p w => Sys2Proof.Machine.execStageWrite p w s
  | .submission p w => Sys2Proof.Machine.execSubmission p w s
  | .responseRead p => Sys2Proof.Machine.execResponseRead p s
  | .attentionEnables p w => Sys2Proof.Machine.execAttentionEnables p w s
  | .clearRefusal p w => Sys2Proof.Machine.execClearRefusal p w s
  | .clearStaging p w => Sys2Proof.Machine.execClearStaging p w s
  | .ignoredWrite p offset w => Sys2Proof.Machine.execIgnoredWrite p offset w s
  | .attach p tag => Sys2Proof.Machine.execAttach p tag s
  | .detach p => Sys2Proof.Machine.execDetach p s
  | .cancel p => Sys2Proof.Machine.execCancel p s
  | .nextNotice p => Sys2Proof.Machine.execNextNotice p s
  | .readLines p => Sys2Proof.Machine.execReadLines p s
  | .limits p => Sys2Proof.Machine.execLimits p s
  | .create p => Sys2Proof.Machine.execCreate p s
  | .retire p => Sys2Proof.Machine.execRetire p s
  | .adopt p => Sys2Proof.Machine.execAdopt p s
  | .find p => Sys2Proof.Machine.execFind p s
  | .scan p => Sys2Proof.Machine.execScan p s
  | .read p => Sys2Proof.Machine.execRead p s
  | .watch p => Sys2Proof.Machine.execWatch p s
  | .assignLine p => Sys2Proof.Machine.execAssignLine p s
  | .acquire p => Sys2Proof.Machine.execAcquire p s
  | .acquireWait p => Sys2Proof.Machine.execAcquireWait p s
  | .release p => Sys2Proof.Machine.execRelease p s
  | .restock p => Sys2Proof.Machine.execRestock p s
  | .readHolders p => Sys2Proof.Machine.execReadHolders p s
  | .add p => Sys2Proof.Machine.execAdd p s
  | .set p => Sys2Proof.Machine.execSet p s
  | .compareSet p => Sys2Proof.Machine.execCompareSet p s
  | .clearLimit p => Sys2Proof.Machine.execClearLimit p s
  | .setFlags p => Sys2Proof.Machine.execSetFlags p s
  | .clearFlags p => Sys2Proof.Machine.execClearFlags p s
  | .toggleFlags p => Sys2Proof.Machine.execToggleFlags p s
  | .claim p => Sys2Proof.Machine.execClaim p s
  | .unclaim p => Sys2Proof.Machine.execUnclaim p s
  | .next p => Sys2Proof.Machine.execNext p s
  | .refill p => Sys2Proof.Machine.execRefill p s
  | .grant k => Sys2Proof.Machine.execGrant k s
  | .drainCompletion k => Sys2Proof.Machine.execDrainCompletion k s
  | .unitBoundary => Sys2Proof.Machine.execUnitBoundary s
  | .expiry k g => Sys2Proof.Machine.execExpiry k g s
  | .prstAssertion p => Sys2Proof.Machine.execPrstAssertion p s
  | .walkStep => Sys2Proof.Machine.execWalkStep s
  | .frameStart => Sys2Proof.Machine.execFrameStart s
  | .frameEnd => Sys2Proof.Machine.execFrameEnd s
  | .unknownCommand b => Sys2Proof.Machine.execUnknownCommand b s
  | .status => Sys2Proof.Machine.execStatus s
  | .counts => Sys2Proof.Machine.execCounts s
  | .readRecord b => Sys2Proof.Machine.execReadRecord b s
  | .purge m => Sys2Proof.Machine.execPurge m s
  | .clearTable => Sys2Proof.Machine.execClearTable s
  | .clearTableSlot => Sys2Proof.Machine.execClearTableSlot s
  | .fence b => Sys2Proof.Machine.execFence b s
  | .unfence b => Sys2Proof.Machine.execUnfence b s
  | .portReset b => Sys2Proof.Machine.execPortReset b s
  | .setWaitUnit b => Sys2Proof.Machine.execSetWaitUnit b s
  | .setMattnMask b => Sys2Proof.Machine.execSetMattnMask b s
  | .clearMattn b => Sys2Proof.Machine.execClearMattn b s
  | .commandByte b => Sys2Proof.Machine.execCommandByte b s
  | .responsePhaseByte b => Sys2Proof.Machine.execResponsePhaseByte b s

end Sys2Proof.Machine
end

