-- ==== Sys2Proof/Machine/Step.lean ====
section
/-! DEFINITION. One step of the block: the command at the front of the queue, or with an empty queue one period of REFCLK
(notes/assumptions/6.md). -/

namespace Sys2Proof.Machine

/-- The command at the front of the queue is run with the queue's rest; on an empty queue one period of REFCLK passes
(notes/assumptions/6.md). -/
def step (s : State) : Host.Outcome State Fault Refusal :=
  match s.pending with
  | [] => .next s.tick
  | c :: rest => exec c { s with pending := rest }

/-- The state with the command that a word spells at the front of its queue; no word spells one, since the table gives its
rows no bits (INVENTORY.md, "Host interface"). -/
def State.withFetchWord (s : State) (nbits w : Nat) : State :=
  match decodeTableWord nbits w with
  | none => s
  | some c => { s with pending := c :: s.pending }

end Sys2Proof.Machine
end

