-- ==== Sys2Proof/Safety.lean ====
section
/-! DEFINITION. The laws of the part that the statements speak of: what makes a body legal, the laws the spec says hold after
every event, and the words in which the statements name a turn and its outcome. -/

namespace Sys2Proof

/-! ### The requests by their rules -/

/-- The command that takes a request of this code from port `p`; ATTACH is taken at its submission (R141). -/
def ReqCode.taken (p : Port) : ReqCode → Option Instr
  | .attach => none
  | .detach => some (.detach p)
  | .cancel => some (.cancel p)
  | .nextNotice => some (.nextNotice p)
  | .readLines => some (.readLines p)
  | .limits => some (.limits p)
  | .create => some (.create p)
  | .retire => some (.retire p)
  | .adopt => some (.adopt p)
  | .find => some (.find p)
  | .scan => some (.scan p)
  | .read => some (.read p)
  | .watch => some (.watch p)
  | .assignLine => some (.assignLine p)
  | .acquire => some (.acquire p)
  | .acquireWait => some (.acquireWait p)
  | .release => some (.release p)
  | .restock => some (.restock p)
  | .readHolders => some (.readHolders p)
  | .add => some (.add p)
  | .set => some (.set p)
  | .compareSet => some (.compareSet p)
  | .clearLimit => some (.clearLimit p)
  | .setFlags => some (.setFlags p)
  | .clearFlags => some (.clearFlags p)
  | .toggleFlags => some (.toggleFlags p)
  | .claim => some (.claim p)
  | .unclaim => some (.unclaim p)
  | .next => some (.next p)
  | .refill => some (.refill p)

/-- The requests that name a handle, and so are checked by R3 and R4. -/
def ReqCode.namesHandle (c : ReqCode) : Bool :=
  !([ReqCode.create, .cancel, .find, .scan, .nextNotice, .readLines, .attach, .detach].contains c)

/-- The owner-only requests, R4's second check. -/
def ReqCode.ownerOnly (c : ReqCode) : Bool :=
  [ReqCode.retire, .limits, .assignLine, .restock, .refill, .clearLimit].contains c

/-- The requests that R18 allows on a CLOSING record. -/
def ReqCode.allowedClosing (c : ReqCode) : Bool :=
  [ReqCode.release, .unclaim, .read, .readHolders, .watch].contains c

/-- The command of the block that takes a link command with the argument byte `b`; a PURGE with its event at once. -/
def LinkCommand.taken (b : Byte) : LinkCommand → Instr
  | .status => .status
  | .counts => .counts
  | .readRecord => .readRecord b
  | .purge => .purge (.atOnce b)
  | .clearTable => .clearTable
  | .fence => .fence b
  | .unfence => .unfence b
  | .portReset => .portReset b
  | .setWaitUnit => .setWaitUnit b
  | .setMattnMask => .setMattnMask b
  | .clearMattn => .clearMattn b

end Sys2Proof

namespace Sys2Proof.Machine

/-! ### Laws of one record -/

/-- `P` holds of every LIVE and CLOSING record. -/
def State.everyRecord (P : Record → Prop) (s : State) : Prop :=
  ∀ (i : Slot) (r : Record), (s.slot i).record = some r → P r

/-- A waiter of a POOL with this stock is as R62, R63 and R66 bound it: at least one unit, no more than the stock, and a
timeout remaining of at most 4095. -/
def Waiter.legal (stock : Nat) (w : Waiter) : Prop :=
  1 ≤ w.units ∧ w.units ≤ stock ∧ ∀ t, w.timeout = some t → t ≤ 4095

/-- A POOL's units are conserved and its holding list has at most one entry for a port, with at least one unit (R40, R41);
its waiters are legal (R63). -/
def Pool.legal (b : Pool) : Prop :=
  b.level + b.heldUnits = b.stock ∧ b.stock ≤ 65535 ∧ b.lowMark ≤ 65535 ∧
  (b.holdings.map (·.port)).Nodup ∧ (∀ h ∈ b.holdings, 1 ≤ h.units) ∧ ∀ w ∈ b.waiters, w.legal b.stock

/-- A COUNTER's value lies within its floor and ceiling, and its numbers are signed words (R87). -/
def Counter.legal (c : Counter) : Prop :=
  c.floor ≤ c.value ∧ c.value ≤ c.ceiling ∧ -32768 ≤ c.floor ∧ c.ceiling ≤ 32767 ∧
  -32768 ≤ c.lowMark ∧ c.lowMark ≤ c.highMark ∧ c.highMark ≤ 32767

/-- Every flag that has a claimant is set (R99). -/
def FlagSet.legal (b : FlagSet) : Prop := ∀ n : FlagNo, b.claimants[n.val].isSome → b.flags.getLsbD n.val = true

/-- A SEQUENCE's step is not 0 and lies from -128 to 127, and its counts are words (R14, R109). -/
def Sequence.legal (b : Sequence) : Prop :=
  b.step ≠ 0 ∧ -128 ≤ b.step ∧ b.step ≤ 127 ∧ b.remaining ≤ 65535 ∧ b.lowMark ≤ 65535

/-- A body is legal, by its kind. -/
def Body.legal : Body → Prop
  | .pool b => b.legal
  | .counter c => c.legal
  | .flags b => b.legal
  | .sequence b => b.legal

/-- Every record's body is legal. -/
def State.bodiesLegal (s : State) : Prop := s.everyRecord fun r => r.body.legal

/-- A record is LIVE while its held retire field is absent and CLOSING otherwise (R9); a CLOSING record has a commitment
(R9) and no waiter (R17, R63). -/
def Record.lifecycle (r : Record) : Prop :=
  (r.state = .live ↔ r.held = .absent) ∧ (r.state = .closing → r.committed = true ∧ r.body.waiters = [])

/-- Every record obeys the laws of LIVE and CLOSING. -/
def State.lifecycles (s : State) : Prop := s.everyRecord Record.lifecycle

/-- A POOL's queue is empty or its head's units exceed the level (R65). -/
def Body.headBlocked : Body → Prop
  | .pool b => ∀ w, b.waiters.head? = some w → b.level < w.units
  | .counter _ | .flags _ | .sequence _ => True

/-- Every POOL's head waiter cannot be served (R65). -/
def State.headsBlocked (s : State) : Prop := s.everyRecord fun r => r.body.headBlocked

/-! ### Laws of the whole table -/

/-- No two records have the same key (R5). -/
def State.keysDistinct (s : State) : Prop :=
  ∀ (i j : Slot) (a b : Record),
    (s.slot i).record = some a → (s.slot j).record = some b → a.key = b.key → i = j

/-- While a port has a waiter on a POOL and no listed entry there, one of its waiters there carries a reservation (R45); the
holding list has at most one entry for a port (R41). -/
def Body.reservationLaw : Body → Prop
  | .pool b =>
    (b.holdings.map (·.port)).Nodup ∧
    ∀ p : Port, (∃ w ∈ b.waiters, w.port = p) → b.lists p = false → ∃ w ∈ b.waiters, w.port = p ∧ w.reserved = true
  | .counter _ | .flags _ | .sequence _ => True

/-- The free, listed and reserved holding entries number 384 together (R43), the free waiter entries and the waiters 24
(R62), and the law of reservations holds on every record (R45). -/
def State.entriesAccounted (s : State) : Prop :=
  s.freeHoldings + (s.slots.toList.map SlotState.entriesUsed).sum = 384 ∧
  s.freeWaiters + (s.slots.toList.map fun x => x.waiters.length).sum = 24 ∧
  s.everyRecord fun r => r.body.reservationLaw

/-- The record of a slot is assigned to line `x` and contributes to it (R125). -/
def SlotState.contributesTo (x : LineNo) (y : SlotState) : Bool :=
  y.record.any fun r => r.line.any (fun a => a.line == x) && contributes r.line r.inAlert

/-- Unless the device is READY, no record stands and every port is OFFLINE (R168, R171), no expiry event, PURGE or
CLEAR-TABLE is under way, and the last refusal reason FAULT is found in a FAILED device alone (R186). -/
def State.idleUnlessReady (s : State) : Prop :=
  (s.condition ≠ .ready → (∀ i : Slot, (s.slot i).record = none) ∧ (∀ p : Port, (s.port p).mode = .offline) ∧
    s.expiryEvents = [] ∧ s.clear = none ∧ s.purgeSlot = none) ∧
  ∀ p : Port, (s.port p).refusalReason = some .fault → s.condition = .failed

/-- Each line's count is the number of records assigned to it that contribute (R126); without READY no record stands. -/
def State.linesCounted (s : State) : Prop :=
  (∀ x : LineNo, s.lineCounts[x.val] = s.slots.toList.countP (SlotState.contributesTo x)) ∧
  (s.condition ≠ .ready → ∀ i : Slot, (s.slot i).record = none)

/-- Each changed set stands in slot order with at most one entry for a slot, and no entry is without a reason (R119). -/
def State.changedSetsOrdered (s : State) : Prop :=
  ∀ p : Port, s.changed[p.val].Pairwise (fun a b => a.slot < b.slot) ∧ ∀ e ∈ s.changed[p.val], e.reasons ≠ Reasons.empty

/-! ### Laws of the ports -/

/-- The staging buffer holds at most six words and its mark stands on a full one (R136); the read position lies within the
oldest response, and is 0 without one (R144); no response has more than nine data words (10.3). -/
def PortState.bounded (q : PortState) : Prop :=
  q.staging.length ≤ 6 ∧ (q.overflow = true → q.staging.length = 6) ∧
  (match q.responses with
    | [] => q.readPos = 0
    | r :: _ => q.readPos ≤ r.data.length) ∧
  ∀ r ∈ q.responses, r.data.length ≤ 9

/-- Every port keeps its bounds. -/
def State.portsBounded (s : State) : Prop := ∀ p : Port, (s.port p).bounded

/-- A record has nothing of port `p` that its board has asked for: no watch, no waiter, no pending held RETIRE (R158). -/
def Record.quietFor (p : Port) (r : Record) : Prop :=
  r.watch[p.val] = .off ∧ (∀ t, r.held ≠ .pending p t) ∧ ∀ w ∈ r.body.waiters, w.port ≠ p

/-- A body has no holding entry and no claim of port `p`. -/
def Body.freeOf (p : Port) : Body → Prop
  | .pool b => b.lists p = false
  | .flags b => ∀ n : FlagNo, b.claimants[n.val] ≠ some p
  | .counter _ | .sequence _ => True

/-- A record has no holding, claim or ownership of port `p` (R163). -/
def Record.freeOf (p : Port) (r : Record) : Prop := r.body.freeOf p ∧ r.owner ≠ some p

/-- An OFFLINE or DRAINING port has no request, outstanding tag, response, changed-set entry, watch, waiter or pending held
RETIRE (R135, R158); an OFFLINE one has no holding, claim or ownership, and a DRAINING one none in the slots its walk has
passed, its cursor being below 256 (R160, R163). -/
def State.withdrawn (s : State) : Prop :=
  ∀ p : Port,
    ((s.port p).mode = .offline ∨ (s.port p).mode = .draining →
      (s.port p).intake = [] ∧ (s.port p).outstanding = [] ∧ (s.port p).responses = [] ∧ s.changed[p.val] = [] ∧
      s.everyRecord (Record.quietFor p)) ∧
    ((s.port p).mode = .offline → s.everyRecord (Record.freeOf p)) ∧
    ((s.port p).mode = .draining → s.cursors[p.val] < 256 ∧
      ∀ (i : Slot) (r : Record), i.val < s.cursors[p.val] → (s.slot i).record = some r → r.freeOf p)

/-- The tags of port `p` that a record keeps: those of its waiters and of a pending held RETIRE (R142). -/
def Record.tagsOf (p : Port) (r : Record) : List Tag :=
  (r.body.waiters.filter (fun w => w.port == p)).map (·.tag) ++
  match r.held with
  | .pending q t => if q = p then [t] else []
  | .absent | .discarded => []

/-- The tags of port `p` that the record of a slot keeps. -/
def SlotState.tagsOf (p : Port) (x : SlotState) : List Tag := (x.record.map (Record.tagsOf p)).getD []

/-- The tags of port `p` in the four places of R142: its intake queue, the Record Table, and its response queue. -/
def State.tagsOf (s : State) (p : Port) : List Tag :=
  (s.port p).intake.map (·.tag) ++ s.slots.toList.flatMap (SlotState.tagsOf p) ++ (s.port p).responses.map (·.tag)

/-- Each port's outstanding tags are those in the four places of R142, each once, and at most eight. -/
def State.tagsAccounted (s : State) : Prop :=
  ∀ p : Port, (s.tagsOf p).Perm (s.port p).outstanding ∧ (s.port p).outstanding.Nodup ∧
    (s.port p).outstanding.length ≤ 8

/-- The laws that together keep the tags accounted: LIVE and CLOSING, withdrawn ports, and nothing standing before READY. -/
def State.requestsAccounted (s : State) : Prop :=
  s.tagsAccounted ∧ s.lifecycles ∧ s.withdrawn ∧ s.idleUnlessReady

/-- While RESET is asserted every block holds its reset value (R168); the chip-select pin and the queue are outside the
part. -/
def State.heldInReset (s : State) : Prop :=
  s.resetAsserted = true →
    s = { State.reset with resetAsserted := true, chipSelect := s.chipSelect, pending := s.pending }

/-! ### The turn of a port -/

/-- The next turn is port `p`'s, and the head of its intake queue is the request `r` with code `c`, `rest` behind it (R150,
R151). -/
abbrev State.atTurn (s : State) (p : Port) (c : ReqCode) (r : Request) (rest : List Request) : Prop :=
  s.turn = some (.port p) ∧ (s.port p).intake = r :: rest ∧ r.code = c

/-- The state once the turn has taken the head request of port `p` from its intake queue (R150, R151). -/
def State.turnTaken (p : Port) (rest : List Request) (s : State) : State :=
  { s with
    rotation := (Claimant.port p).after
    ports := s.ports.set p.val { s.port p with intake := rest } }

/-- The state once the turn has taken the head request of port `p` and answered it, with no other change. -/
def State.answered (p : Port) (rest : List Request) (r : Response) (s : State) : State :=
  { s with
    rotation := (Claimant.port p).after
    ports := s.ports.set p.val { s.port p with intake := rest, responses := (s.port p).responses ++ [r] } }

/-- The handle word `h` names the record `rec` (R3). -/
abbrev State.names (s : State) (h : Word) (rec : Record) : Prop :=
  (s.slot (handleSlot h)).gen = handleGen h ∧ (s.slot (handleSlot h)).record = some rec

/-- The kinds a request belongs to, R4's first check: a request with no kind is allowed on every record, and a LIMITS on
those its number of words fits (R23). -/
def Request.fitsKind (r : Request) (k : Kind) : Bool :=
  match r.code with
  | .acquire | .acquireWait | .release | .restock | .readHolders => k == .pool
  | .add | .set | .compareSet | .clearLimit => k == .counter
  | .setFlags | .clearFlags | .toggleFlags | .claim | .unclaim => k == .flags
  | .next | .refill => k == .sequence
  | .limits => (k == .counter) == (r.words.length == 5)
  | .attach | .detach | .cancel | .nextNotice | .readLines | .create | .retire | .adopt | .find | .scan | .read
  | .watch | .assignLine => true

/-- The request `r` of port `p` passes R3 and R4 and names the record `rec`. -/
abbrev State.passes (s : State) (p : Port) (r : Request) (rec : Record) : Prop :=
  s.names (r.word 0) rec ∧ r.fitsKind rec.kind = true ∧ (r.code.ownerOnly = true → rec.owner = some p) ∧
  (rec.state = .closing → r.code.allowedClosing = true)

/-- The slot a request's handle names. -/
def Request.target (r : Request) : Slot := handleSlot (r.word 0)

/-- The body that a CREATE with these words asks for, when R14's first two checks pass it (R14, R15): the kind
word gives the kind code in bits 3 to 0 and the policy code of a COUNTER in bits 7 to 4 (R185). -/
abbrev Request.createsBody (r : Request) (body : Body) : Prop :=
  ((r.word 0).toNat % 16 = 1 ∧ r.word 2 = r.word 3 ∧
    body = .pool ⟨(r.word 2).toNat, (r.word 3).toNat, 0, [], []⟩) ∨
  ((r.word 0).toNat % 16 = 2 ∧ (r.word 0).toNat / 16 % 16 ≤ 1 ∧
    (r.word 3).toInt ≤ (r.word 2).toInt ∧ (r.word 2).toInt ≤ (r.word 4).toInt ∧
    body = .counter ⟨(r.word 2).toInt, (r.word 3).toInt, (r.word 4).toInt,
      if (r.word 0).toNat / 16 % 16 = 0 then .reject else .clip, false, (r.word 3).toInt, (r.word 4).toInt⟩) ∨
  ((r.word 0).toNat % 16 = 3 ∧ body = .flags ⟨r.word 2, Vector.replicate 16 none, r.word 3⟩) ∨
  ((r.word 0).toNat % 16 = 4 ∧ (r.word 3).toInt ≠ 0 ∧ -128 ≤ (r.word 3).toInt ∧ (r.word 3).toInt ≤ 127 ∧
    body = .sequence ⟨r.word 2, (r.word 3).toInt, (r.word 4).toNat, (r.word 5).toNat⟩)

/-- The state with the record `rec` in slot `i`, whose generation stays. -/
def State.holding (i : Slot) (rec : Record) (s : State) : State :=
  { s with slots := s.slots.set i.val ⟨(s.slot i).gen, some rec⟩ }

/-- The part is in service: out of reset and READY (R171). -/
abbrev State.inService (s : State) : Prop := s.resetAsserted = false ∧ s.condition = .ready

/-- The frame stands where the command `c` is taken next: in the command phase for a command without argument, else in the
argument phase of `c` (R172); the device is out of reset and no PURGE of an earlier frame is owed (R178). -/
abbrev State.awaits (s : State) (c : LinkCommand) : Prop :=
  s.frame = (if c.argCount = 0 then .command else .argument c) ∧ s.resetAsserted = false ∧ s.purgeSlot = none

/-- The device is READY and no CLEAR-TABLE is in progress, so the first three checks of R174 pass every command. -/
abbrev State.executes (s : State) : Prop := s.condition = .ready ∧ s.clear = none

/-- The link's answer to a command: the response phase at its first byte; the idle byte was clocked out with the command's
last byte (R172, R173). -/
def State.linkAnswer (st : LinkStatus) (data : List Byte) (s : State) : State :=
  { s with frame := .response (some st) data 0, sdo := some 0xFF }

/-- What the entry of port `p` into DRAINING makes of a body, with the responses it places (R82): where the port has a waiter
its waiters end and the grant cascade runs, and any other body stands. -/
def Body.leftBy (p : Port) : Body → Body × List (Port × Response)
  | .pool b =>
    if b.waiters.any (fun w => w.port == p) then
      (.pool (b.endWaiters fun w => w.port == p).cascade.1, (b.endWaiters fun w => w.port == p).cascade.2)
    else (.pool b, [])
  | .counter c => (.counter c, [])
  | .flags b => (.flags b, [])
  | .sequence b => (.sequence b, [])

/-! ### What an event leaves alone -/

/-- Nothing of the blocks that only the clock, the walk and the link change is different: the Wait Clock, the expiry events,
the Reclaim Walker, the condition, the frame, the mask and the pins, and the queue. -/
def State.sameDevice (s t : State) : Prop :=
  t.expiryEvents = s.expiryEvents ∧ t.waitUnit = s.waitUnit ∧ t.unitPos = s.unitPos ∧ t.cursors = s.cursors ∧
  t.servicePos = s.servicePos ∧ t.condition = s.condition ∧ t.failedAreas = s.failedAreas ∧ t.frame = s.frame ∧
  t.clear = s.clear ∧ t.purgeSlot = s.purgeSlot ∧ t.mattnMask = s.mattnMask ∧ t.resetAsserted = s.resetAsserted ∧
  t.chipSelect = s.chipSelect ∧ t.sdo = s.sdo ∧ t.pending = s.pending

/-- The two ports differ at most in their intake queues and by responses that joined the tail of the response queue. -/
def PortState.sameButQueues (q u : PortState) : Prop :=
  ∃ intake more, u = { q with intake := intake, responses := q.responses ++ more }

/-- The responses among `rs` that go to port `p`, in their order. -/
def responsesFor (p : Port) (rs : List (Port × Response)) : List Response :=
  (rs.filter (fun x => x.1 == p)).map (·.2)

/-- The entry of slot `i` in a changed set. -/
def entryOf (i : Slot) (set : List ChangedEntry) : Option ChangedEntry := set.find? (fun e => e.slot == i)

end Sys2Proof.Machine
end

