-- ==== Sys2Proof/Certificates/Slice0/Obligations.lean ====
section
/-! DEFINITION. The statements for the provers. A turn of port `p` is named by `State.atTurn`, its outcome when only the
answer joins the port's queue by `State.answered`, and the record a request's handle names by `State.passes` (Safety.lean).
What the end of an event does (`finishEvent`, `updateRecord`, `emptySlot`, `cascade`, `enterDraining`) is stated once, field by
field, and the statements about a command say with which record and which responses its event ends. -/

open Sys2Proof Sys2Proof.Machine

/-! ### The step, reset and the self-check -/

/-- A step takes the command at the front of the queue and runs it with the queue's rest. -/
def Obligations.StepRunsFrontCommand : Prop :=
  ∀ (c : Instr) (rest : List Instr) (s : State), step { s with pending := c :: rest } = exec c { s with pending := rest }

/-- The model's choice (notes/assumptions/6.md): on an empty queue one period of REFCLK passes; the last one of a unit is its
boundary, and the clock stands while RESET is asserted. The model's choice (notes/assumptions/1.md): a request taken from a
port, or a walk step, that is not the next turn changes nothing. -/
def Obligations.IdleStepsAndEventsOutOfPlace : Prop :=
  (∀ s : State, s.pending = [] →
     (s.resetAsserted = true → step s = .next s) ∧
     (s.resetAsserted = false → s.unitPos + 1 < (match s.waitUnit with | .us100 => 1000 | .ms1 => 10000 | .ms10 => 100000) →
       step s = .next { s with unitPos := s.unitPos + 1 }) ∧
     (s.resetAsserted = false → (match s.waitUnit with | .us100 => 1000 | .ms1 => 10000 | .ms10 => 100000) ≤ s.unitPos + 1 →
       step s = exec .unitBoundary s)) ∧
  ((∀ (s : State) (p : Port) (c : ReqCode) (i : Instr), ReqCode.taken p c = some i →
     (∀ (r : Request) (rest : List Request), ¬s.atTurn p c r rest) → exec i s = .next s) ∧
   ∀ s : State, s.turn ≠ some .walker → exec .walkStep s = .next s)

/-- The state after device reset, block by block; every attention output is then deasserted, every alert line released and
SDO high-impedance; and DEVICE_RESET and POWER_ON bring it about from any state, the level of RESET after power-on being the
operand (notes/assumptions/4.md). That the chip-select pin and the queue stay is the model's choice
(notes/assumptions/28.md). The model's own fields are at the values its log names: the word on the data pins 0, a choice of
the model and no value of the part's (notes/assumptions/9.md), no expiry event still to be taken (16.md) and no PURGE still
owed (17.md). -/
def Obligations.DeviceResetGivesResetValues : Prop :=
  (let s := State.reset
   (∀ p : Port,
     (s.port p).mode = .offline ∧ (s.port p).staging = [] ∧ (s.port p).overflow = false ∧ (s.port p).intake = [] ∧
     (s.port p).outstanding = [] ∧ (s.port p).responses = [] ∧ (s.port p).readPos = 0 ∧ (s.port p).refusalFlag = false ∧
     (s.port p).refusalReason = none ∧ (s.port p).refusedTag = 0 ∧ (s.port p).responseEnable = false ∧
     (s.port p).noticeEnable = false ∧ s.port p = PortState.reset ∧ s.changed[p.val] = [] ∧ s.cursors[p.val] = 0) ∧
   (∀ i : Slot, s.slot i = ⟨0, none⟩) ∧ (∀ x : LineNo, s.lineCounts[x.val] = 0) ∧
   s.rotation = .port 0 ∧ s.servicePos = 0 ∧ s.freeHoldings = 384 ∧ s.freeWaiters = 24 ∧ s.waitUnit = .ms1 ∧
   s.unitPos = 0 ∧ s.condition = .checking ∧ s.failedAreas = ⟨false, false, false⟩ ∧ s.frame = .idle ∧ s.clear = none ∧
   s.mattnReasons = 0 ∧ s.mattnMask = 0) ∧
  ((∀ p : Port, State.reset.attnAsserted p = false) ∧ State.reset.mattnAsserted = false ∧
   (∀ x : LineNo, State.reset.lineDrivenLow x = false) ∧ State.reset.sdo = none) ∧
  (∀ s : State,
     exec .deviceReset s =
       .next { State.reset with resetAsserted := true, chipSelect := s.chipSelect, pending := s.pending } ∧
     ∀ held : Bool, exec (.powerOn held) s =
       .next { State.reset with resetAsserted := held, chipSelect := s.chipSelect, pending := s.pending })

/-- SELF_CHECK: RESET is released, or a failed word joins its memory to the failed-area set, within the pass alone.
SELF_CHECK_END: READY with CHECK-DONE when no memory failed, else FAILED with CHECK-FAILED; the three memories hold their
reset values either way. The model's choice (notes/assumptions/5.md): which words fail is the command's operand. -/
def Obligations.SelfCheckPassAndEnd : Prop :=
  (∀ s : State,
     exec (.selfCheck .resetReleased) s = .next { s with resetAsserted := false } ∧
     (s.resetAsserted = false → s.condition = .checking →
       exec (.selfCheck (.wordFailed .slot)) s = .next { s with failedAreas := { s.failedAreas with slot := true } } ∧
       exec (.selfCheck (.wordFailed .holding)) s = .next { s with failedAreas := { s.failedAreas with holding := true } } ∧
       exec (.selfCheck (.wordFailed .waiter)) s = .next { s with failedAreas := { s.failedAreas with waiter := true } }) ∧
     (s.condition ≠ .checking → ∀ a : Area, exec (.selfCheck (.wordFailed a)) s = .next s)) ∧
  (∀ s : State, s.resetAsserted = false → s.condition = .checking →
     (s.failedAreas = ⟨false, false, false⟩ →
       exec .selfCheckEnd s = .next { s with
         condition := .ready, mattnReasons := s.mattnReasons ||| 0x01#8,
         slots := Vector.replicate 256 ⟨0, none⟩, freeHoldings := 384, freeWaiters := 24 }) ∧
     (s.failedAreas ≠ ⟨false, false, false⟩ →
       exec .selfCheckEnd s = .next { s with
         condition := .failed, mattnReasons := s.mattnReasons ||| 0x02#8,
         slots := Vector.replicate 256 ⟨0, none⟩, freeHoldings := 384, freeWaiters := 24 }))

/-! ### The port window -/

/-- STAGE_WRITE: the word is appended while fewer than six are held, and sets the overflow mark on a full buffer.
IGNORED_WRITE: a write to RESPONSE, STATUS or an offset from 5 to 7 changes nothing. -/
def Obligations.StageAndIgnoredWrites : Prop :=
  (∀ (s : State) (p : Port) (w : Word), s.resetAsserted = false →
     ((s.port p).staging.length < 6 →
       exec (.stageWrite p w) s =
         .next { s with ports := s.ports.set p.val { s.port p with staging := (s.port p).staging ++ [w] } }) ∧
     (6 ≤ (s.port p).staging.length →
       exec (.stageWrite p w) s = .next { s with ports := s.ports.set p.val { s.port p with overflow := true } })) ∧
  (∀ (s : State) (p : Port) (offset : BitVec 3) (w : Word),
     offset = 2 ∨ offset = 3 ∨ offset = 5 ∨ offset = 6 ∨ offset = 7 → exec (.ignoredWrite p offset w) s = .next s)

/-- SUBMISSION refused: the checks in their order, each with its reason; the refusal register takes reason and tag, the
staging buffer is emptied, and nothing else changes. Where a header names no request, the order of the third and fourth
checks is read as notes/assumptions/13.md says. A header word (10.2, R184): its tag in bits 9 to 6 and its code in bits 15 to
10, the codes that name no request, and its bits 5 to 0, any of which malforms it when set. The staged words each request
requires are those of R138's table, a CREATE's by the kind code in bits 3 to 0 of its first word (R13). -/
def Obligations.SubmissionChecksInOrder : Prop :=
  (∀ w : Word,
     (headerTag w).toNat = w.toNat / 64 % 16 ∧ (headerLowZero w = true ↔ w.toNat % 64 = 0) ∧
     (∀ c : ReqCode, headerCode w = some c ↔ w.toNat / 1024 = c.code) ∧
     (headerCode w = none ↔ w.toNat / 1024 ∈ [0x00, 0x06, 0x15, 0x16, 0x17, 0x1C, 0x1D, 0x1E, 0x1F, 0x25, 0x26, 0x27] ∨
       0x2A ≤ w.toNat / 1024)) ∧
  (∀ (c : ReqCode) (words : List Word), wordCountOk c words = true ↔
     match c with
     | .attach | .detach | .nextNotice | .readLines => words.length = 0
     | .cancel | .retire | .adopt | .find | .read | .readHolders | .clearLimit => words.length = 1
     | .watch | .assignLine | .acquire | .release | .restock | .add | .set | .setFlags | .clearFlags | .toggleFlags | .claim
     | .unclaim | .next | .refill => words.length = 2
     | .scan | .acquireWait | .compareSet => words.length = 3
     | .limits => words.length = 2 ∨ words.length = 5
     | .create => ∃ kind : Word, words.head? = some kind ∧
         match kind.toNat % 16 with
         | 1 => words.length = 4
         | 2 => words.length = 5
         | 3 => words.length = 4
         | 4 => words.length = 6
         | _ => 2 ≤ words.length ∧ words.length ≤ 6) ∧
  ∀ (s : State) (p : Port) (w : Word), s.resetAsserted = false →
    let q := s.port p
    let refused := fun reason : RefusalReason =>
      Host.Outcome.next (φ := Fault) (ρ := Refusal) { s with ports := s.ports.set p.val { q with
        staging := [], overflow := false, refusalFlag := true, refusalReason := some reason, refusedTag := headerTag w } }
    let admitted := q.mode = .online ∨ (q.mode = .offline ∧ headerCode w = some .attach)
    let malformed := headerLowZero w = false ∨ headerCode w = none ∨ q.overflow = true ∨
      ∃ c, headerCode w = some c ∧ wordCountOk c q.staging = false
    (s.condition = .checking → exec (.submission p w) s = refused .notReady) ∧
    (s.condition = .failed → exec (.submission p w) s = refused .fault) ∧
    (s.condition = .ready →
      (q.mode = .offline → headerCode w ≠ some .attach → exec (.submission p w) s = refused .offline) ∧
      (q.mode = .fenced → exec (.submission p w) s = refused .fenced) ∧
      (q.mode = .draining → exec (.submission p w) s = refused .draining) ∧
      (admitted → malformed → exec (.submission p w) s = refused .malformed) ∧
      (admitted → ¬malformed → headerTag w ∈ q.outstanding → exec (.submission p w) s = refused .tagInUse) ∧
      (admitted → ¬malformed → headerTag w ∉ q.outstanding → 8 ≤ q.outstanding.length →
        exec (.submission p w) s = refused .full))

/-- SUBMISSION accepted: the request joins the tail of the intake queue with the staged words, and its tag the outstanding
tags. ATTACH accepted, on an OFFLINE or an ONLINE port: the port is ONLINE, and the DONE joins the response queue in the
access. A SUBMISSION of the same header word is the same access. The row ATTACH is that submission (notes/assumptions/12.md).
What makes a header or a word count acceptable is spelled out in SubmissionChecksInOrder. -/
def Obligations.AcceptedSubmissionsAndAttach : Prop :=
  (∀ (s : State) (p : Port) (w : Word) (c : ReqCode),
     s.resetAsserted = false → s.condition = .ready → (s.port p).mode = .online →
     headerLowZero w = true → headerCode w = some c → c ≠ .attach → (s.port p).overflow = false →
     wordCountOk c (s.port p).staging = true → headerTag w ∉ (s.port p).outstanding → (s.port p).outstanding.length < 8 →
     exec (.submission p w) s = .next { s with ports := s.ports.set p.val { s.port p with
       staging := []
       overflow := false
       intake := (s.port p).intake ++ [⟨c, headerTag w, (s.port p).staging⟩]
       outstanding := (s.port p).outstanding ++ [headerTag w] } }) ∧
  (∀ (s : State) (p : Port) (tag : Tag),
     s.resetAsserted = false → s.condition = .ready → (s.port p).mode = .offline ∨ (s.port p).mode = .online →
     (s.port p).staging = [] → (s.port p).overflow = false → tag ∉ (s.port p).outstanding →
     (s.port p).outstanding.length < 8 →
     let t : State := { s with ports := s.ports.set p.val { s.port p with
       mode := .online
       outstanding := (s.port p).outstanding ++ [tag]
       responses := (s.port p).responses ++ [⟨tag, .done, []⟩] } }
     exec (.attach p tag) s = .next t ∧ exec (.submission p (headerWord .attach tag)) s = .next t)

/-- RESPONSE_READ with a response in the queue: the word at the read position is returned; before the last word the position
advances, and at the last word the response leaves the queue and its tag the outstanding tags. The word stands in the model's
latch of the data pins (notes/assumptions/9.md). -/
def Obligations.ResponseReadReturnsNextWord : Prop :=
  ∀ (s : State) (p : Port) (r : Response) (rest : List Response), s.resetAsserted = false →
    (s.port p).responses = r :: rest →
    let word := (responseHeader true r.tag r.result r.data.length :: r.data).getD (s.port p).readPos 0
    ((s.port p).readPos < r.data.length →
      exec (.responseRead p) s = .next { s with ports := s.ports.set p.val { s.port p with
        dataOut := word, readPos := (s.port p).readPos + 1 } }) ∧
    (r.data.length ≤ (s.port p).readPos →
      exec (.responseRead p) s = .next { s with ports := s.ports.set p.val { s.port p with
        dataOut := word, readPos := 0, responses := rest
        outstanding := (s.port p).outstanding.filter (fun t => t != r.tag) } })

/-- R145. RESPONSE_READ on an empty queue returns the empty header word, 02C0h, and changes nothing but the word on the data
pins (the model's latch of them, notes/assumptions/9.md). The valid bit tells it from the header of every response; STATUS
shows whether a response is available, by its queue number, for every port state R186 speaks of. A read before the placing of
a response into the empty queue leaves the response for the next read; a read after it returns its header. -/
def Obligations.EmptyResponseReadChangesNothing : Prop :=
  (emptyHeader = 0x02C0#16 ∧ emptyHeader = responseHeader false 0 .none 0 ∧ responseHeader true 0 .none 0 = 0x82C0#16 ∧
   emptyHeader.getLsbD 15 = false ∧
   ∀ (tag : Tag) (result : ResultCode) (n : Nat), (responseHeader true tag result n).getLsbD 15 = true) ∧
  (∀ (s : State) (p : Port), s.resetAsserted = false → (s.port p).responses = [] →
    exec (.responseRead p) s = .next { s with ports := s.ports.set p.val { s.port p with dataOut := 0x02C0#16 } }) ∧
  (∀ (s : State) (p : Port) (r : Response), s.resetAsserted = false → (s.port p).responses = [] → (s.port p).readPos = 0 →
    (s.port p).mode ≠ .draining →
    (∃ t : State, exec (.responseRead p) s = .next t ∧ (t.port p).dataOut = 0x02C0#16 ∧
      ((t.place p r).port p).responses = [r] ∧ ((t.place p r).port p).readPos = 0) ∧
    ∃ t : State, exec (.responseRead p) (s.place p r) = .next t ∧
      (t.port p).dataOut = responseHeader true r.tag r.result r.data.length) ∧
  (∀ q : PortState, q.outstanding.length ≤ 8 → q.intake.length ≤ q.outstanding.length →
    (q.responses ≠ [] → q.intake.length < q.outstanding.length) →
    (decodeQueueNumber q.queueNumber).2.2 = !q.responses.isEmpty)

/-- A write of the control word, the three rows alike: both enables take bits 0 and 1, bit 2 clears the refusal flag, bit 3
empties the staging buffer and clears its mark, and nothing else changes. That the three rows are one and the same write,
whatever its bits 2 and 3, is the model's reading (notes/assumptions/11.md). -/
def Obligations.ControlWriteSetsEnables : Prop :=
  ∀ (s : State) (p : Port) (w : Word), s.resetAsserted = false →
    let t : State := { s with ports := s.ports.set p.val { s.port p with
      responseEnable := w.getLsbD 0
      noticeEnable := w.getLsbD 1
      refusalFlag := if w.getLsbD 2 then false else (s.port p).refusalFlag
      staging := if w.getLsbD 3 then [] else (s.port p).staging
      overflow := if w.getLsbD 3 then false else (s.port p).overflow } }
    exec (.attentionEnables p w) s = .next t ∧ exec (.clearRefusal p w) s = .next t ∧
    exec (.clearStaging p w) s = .next t

/-- The frame of the accesses of a port window: whatever the port's board does there, every other port and every other block
stays as it was, and the port's mode stays too or goes from OFFLINE to ONLINE. -/
def Obligations.PortAccessTouchesItsPortAlone : Prop :=
  ∀ (s t : State) (p : Port) (c : Instr),
    (∃ w, c = .stageWrite p w ∨ c = .submission p w ∨ c = .attentionEnables p w ∨ c = .clearRefusal p w ∨
        c = .clearStaging p w ∨ ∃ o, c = .ignoredWrite p o w) ∨ c = .responseRead p ∨ (∃ g, c = .attach p g) →
    exec c s = .next t →
    t = { s with ports := t.ports } ∧ (∀ q : Port, q ≠ p → t.port q = s.port q) ∧
    ((t.port p).mode = (s.port p).mode ∨ ((s.port p).mode = .offline ∧ (t.port p).mode = .online))

/-! ### Turns -/

/-- The next turn goes to the first eligible claimant at or after the rotation position, in the circle P0, P1, P2, P3,
Walker, and the position a served claimant leaves is the claimant after it; none is given while the device is not READY or a CLEAR-TABLE is in progress, or while no claimant is eligible. -/
def Obligations.TurnGoesToFirstEligible : Prop :=
  ∀ s : State,
    (circleFrom (.port 0) = [.port 0, .port 1, .port 2, .port 3, .walker] ∧
     circleFrom (.port 1) = [.port 1, .port 2, .port 3, .walker, .port 0] ∧
     circleFrom (.port 2) = [.port 2, .port 3, .walker, .port 0, .port 1] ∧
     circleFrom (.port 3) = [.port 3, .walker, .port 0, .port 1, .port 2] ∧
     circleFrom .walker = [.walker, .port 0, .port 1, .port 2, .port 3]) ∧
    ([Claimant.port 0, .port 1, .port 2, .port 3, .walker].map Claimant.after =
      [.port 1, .port 2, .port 3, .walker, .port 0]) ∧
    (∀ p : Port, s.eligible (.port p) = true ↔ (s.port p).mode = .online ∧ (s.port p).intake ≠ []) ∧
    (s.eligible .walker = true ↔ ∃ p : Port, (s.port p).mode = .draining ∧ s.cursors[p.val] < 256) ∧
    (s.resetAsserted = true ∨ s.condition ≠ .ready ∨ s.clear ≠ none → s.turn = none) ∧
    (s.inService → s.clear = none →
      (∀ (n : Nat) (c : Claimant), (circleFrom s.rotation)[n]? = some c → s.eligible c = true →
        (∀ (m : Nat) (d : Claimant), m < n → (circleFrom s.rotation)[m]? = some d → s.eligible d = false) →
        s.turn = some c) ∧
      ((∀ c : Claimant, s.eligible c = false) → s.turn = none))

/-- R3: a request whose handle names an EMPTY slot or another generation is answered STALE, with no data words and no other
change, when it is taken. -/
def Obligations.StaleHandleAnsweredStale : Prop :=
  ∀ (s : State) (p : Port) (c : ReqCode) (i : Instr) (r : Request) (rest : List Request),
    ReqCode.taken p c = some i → c.namesHandle = true → s.atTurn p c r rest →
    (s.slot r.target).record = none ∨ (s.slot r.target).gen ≠ handleGen (r.word 0) →
    exec i s = .next (s.answered p rest ⟨r.tag, .stale, []⟩)

/-- R4's first three checks, in their order: WRONG-KIND, NOT-OWNER, CLOSING, each with no data words and no other change. The
kind of a record is that of its body (R6). -/
def Obligations.KindOwnerAndStateChecks : Prop :=
  (∀ rec : Record, rec.kind = match rec.body with
     | .pool _ => .pool
     | .counter _ => .counter
     | .flags _ => .flags
     | .sequence _ => .sequence) ∧
  ∀ (s : State) (p : Port) (c : ReqCode) (i : Instr) (r : Request) (rest : List Request) (rec : Record),
    ReqCode.taken p c = some i → c.namesHandle = true → s.atTurn p c r rest → s.names (r.word 0) rec →
    (r.fitsKind rec.kind = false → exec i s = .next (s.answered p rest ⟨r.tag, .wrongKind, []⟩)) ∧
    (r.fitsKind rec.kind = true → c.ownerOnly = true → rec.owner ≠ some p →
      exec i s = .next (s.answered p rest ⟨r.tag, .notOwner, []⟩)) ∧
    (r.fitsKind rec.kind = true → (c.ownerOnly = true → rec.owner = some p) → rec.state = .closing →
      c.allowedClosing = false → exec i s = .next (s.answered p rest ⟨r.tag, .closing, []⟩))

/-- The frame of the requests: no request but DETACH changes anything of the clock, the walks, the condition, the link and
the pins; no port's own state but queues, and the response queues only by joining their tails; no MATTN reason but by an
ACQUIRE or ACQUIRE-WAIT; and a request on a handle changes no slot but the one it names. -/
def Obligations.RequestsLeaveTheRestAlone : Prop :=
  ∀ (s t : State) (p : Port) (c : ReqCode) (i : Instr) (r : Request) (rest : List Request),
    ReqCode.taken p c = some i → c ≠ .detach → s.atTurn p c r rest → exec i s = .next t →
    s.sameDevice t ∧
    (∀ q : Port, (s.port q).sameButQueues (t.port q) ∧ (q ≠ p → (t.port q).intake = (s.port q).intake)) ∧
    (t.port p).intake = rest ∧
    (c ≠ .acquire → c ≠ .acquireWait → t.mattnReasons = s.mattnReasons) ∧
    (c.namesHandle = true → ∀ j : Slot, j ≠ r.target → t.slot j = s.slot j)

/-! ### The end of an event on a record -/

/-- A change report (R11, R117, R118, R120, R127): when the body or the state of the record changed, each port records the
reasons its watch mode keeps, in its entry for the slot; the count of the assigned line follows the contribution; and nothing
else moves but the record itself and the entries of the Holding Pool and the Wait Queue that it takes or gives back. What
each watch mode keeps of a report's reasons (R118, the table of 06 section 6.1). That the entries move by the difference of
what the record uses is the model's reading (notes/assumptions/22.md). The body that R11 compares is the whole body but for the
waiter queue of a POOL (R39), and reasons that meet in one entry are joined (R120). -/
def Obligations.ChangeReportReachesSetsAndLine : Prop :=
  (∀ b c : Body, b.reported = c.reported ↔
     match b, c with
     | .pool x, .pool y => x.stock = y.stock ∧ x.level = y.level ∧ x.lowMark = y.lowMark ∧ x.holdings = y.holdings
     | b, c => b = c) ∧
  (Reasons.empty = ⟨false, false, false, false⟩ ∧
   ∀ a b : Reasons, a.union b =
     ⟨a.body || b.body, a.alertOn || b.alertOn, a.alertOff || b.alertOff, a.ended || b.ended⟩) ∧
  (∀ (s : State) (i : Slot) (r0 r1 : Record),
     s.changedSetsOrdered → (s.slot i).record = some r0 → r1.line = r0.line →
     let changed := r0.body.reported ≠ r1.body.reported ∨ r0.state ≠ r1.state
     let reasons : Reasons := ⟨true, !r0.inAlert && r1.inAlert, r0.inAlert && !r1.inAlert, false⟩
     let t := s.updateRecord i r0 r1
     t.slot i = ⟨(s.slot i).gen, some r1⟩ ∧ (∀ j : Slot, j ≠ i → t.slot j = s.slot j) ∧
     t.freeHoldings = s.freeHoldings + r0.body.entriesUsed - r1.body.entriesUsed ∧
     t.freeWaiters = s.freeWaiters + r0.body.waiters.length - r1.body.waiters.length ∧
     (¬changed → t.changed = s.changed ∧ t.lineCounts = s.lineCounts) ∧
     (changed → ∀ p : Port,
       (reasons.keptBy r1.watch[p.val] = Reasons.empty → t.changed[p.val] = s.changed[p.val]) ∧
       (reasons.keptBy r1.watch[p.val] ≠ Reasons.empty →
         entryOf i t.changed[p.val] = some ⟨i, (s.slot i).gen,
           (((entryOf i s.changed[p.val]).map (·.reasons)).getD Reasons.empty).union (reasons.keptBy r1.watch[p.val])⟩ ∧
         ∀ j : Slot, j ≠ i → entryOf j t.changed[p.val] = entryOf j s.changed[p.val])) ∧
     (∀ x : LineNo, t.lineCounts[x.val] = s.lineCounts[x.val] +
       (if SlotState.contributesTo x ⟨0, some r1⟩ then 1 else 0) -
       (if SlotState.contributesTo x ⟨0, some r0⟩ then 1 else 0)) ∧
     s.sameDevice t ∧ t.ports = s.ports ∧ t.rotation = s.rotation ∧ t.mattnReasons = s.mattnReasons) ∧
  (∀ r : Reasons,
     r.keptBy .off = ⟨false, false, false, false⟩ ∧ r.keptBy .change = r ∧
     r.keptBy .alert = ⟨false, r.alertOn, r.alertOff, r.ended⟩ ∧ r.keptBy .ended = ⟨false, false, false, r.ended⟩)

/-- A slot becomes EMPTY (R26): its waiters are answered CLOSED in queue order, then a pending held RETIRE; its entries are
free; every port that watches it records ENDED, with BODY where the event changed the body first and the mode reports it; its
contribution is withdrawn; and its generation advances by one. The entries are counted as notes/assumptions/22.md says. -/
def Obligations.EmptyingASlot : Prop :=
  ∀ (s : State) (i : Slot) (r0 r1 : Record) (result : ResultCode),
    s.changedSetsOrdered → (s.slot i).record = some r0 →
    let rs := r1.body.waiters.map (fun w => (w.port, (⟨w.tag, .closed, []⟩ : Response))) ++
      (match r1.held with
        | .pending p g => [(p, ⟨g, result, []⟩)]
        | .absent | .discarded => [])
    let reasons : Reasons := ⟨r0.body.reported != r1.body.reported, false, false, true⟩
    let t := s.emptySlot i r0 r1 result
    t.slot i = ⟨(s.slot i).gen + 1, none⟩ ∧ (∀ j : Slot, j ≠ i → t.slot j = s.slot j) ∧
    t.freeHoldings = s.freeHoldings + r0.body.entriesUsed ∧
    t.freeWaiters = s.freeWaiters + r0.body.waiters.length ∧
    (∀ p : Port, t.port p = if (s.port p).mode = .draining then s.port p else
      { s.port p with responses := (s.port p).responses ++ responsesFor p rs }) ∧
    (∀ p : Port, r1.watch[p.val] = .off → t.changed[p.val] = s.changed[p.val]) ∧
    (∀ p : Port, r1.watch[p.val] ≠ .off →
      entryOf i t.changed[p.val] = some ⟨i, (s.slot i).gen,
        (((entryOf i s.changed[p.val]).map (·.reasons)).getD Reasons.empty).union (reasons.keptBy r1.watch[p.val])⟩ ∧
      ∀ j : Slot, j ≠ i → entryOf j t.changed[p.val] = entryOf j s.changed[p.val]) ∧
    (∀ x : LineNo, t.lineCounts[x.val] = s.lineCounts[x.val] -
      (if SlotState.contributesTo x ⟨0, some r0⟩ then 1 else 0)) ∧
    s.sameDevice t ∧ t.rotation = s.rotation ∧ t.mattnReasons = s.mattnReasons

/-- An event's responses are placed first, in their order and for no DRAINING port (R12); then, when it removed the last
commitment of a CLOSING record, the slot empties with the held RETIRE answered DONE (R19), else the record stays with its
change report (R11). DRAIN_COMPLETION by itself empties the slot of a CLOSING record without commitments. That
DRAIN_COMPLETION is also a command of its own is the model's choice (notes/assumptions/15.md). -/
def Obligations.LastCommitmentCompletesTheDrain : Prop :=
  (∀ (s : State) (i : Slot) (r0 r1 : Record) (rs : List (Port × Response)),
    (∀ p : Port, (s.placeAll rs).port p = if (s.port p).mode = .draining then s.port p else
      { s.port p with responses := (s.port p).responses ++ responsesFor p rs }) ∧
    s.placeAll rs = { s with ports := (s.placeAll rs).ports } ∧
    (r1.state = .closing → r0.committed = true → r1.committed = false →
      s.finishEvent i r0 r1 rs = (s.placeAll rs).emptySlot i r0 r1 .done) ∧
    (r1.state = .live ∨ r0.committed = false ∨ r1.committed = true →
      s.finishEvent i r0 r1 rs = (s.placeAll rs).updateRecord i r0 r1)) ∧
  ∀ (s : State) (i : Slot) (rec : Record), s.inService → (s.slot i).record = some rec → rec.state = .closing →
    rec.committed = false → exec (.drainCompletion i) s = .next (s.emptySlot i rec rec .done)

/-! ### The Record Table -/

/-- CREATE that passes R14: the lowest-numbered EMPTY slot becomes LIVE with the new header and body, its generation kept,
and the answer is DONE with the handle (R15). CREATE refused, by the checks of R14 in their order: BAD-REQUEST, DUPLICATE,
TABLE-FULL, with no data words and no other change. The kind word gives the kind code in bits 3 to 0 and the policy code of a
COUNTER in bits 7 to 4 (Request.createsBody), and its other bits play no part (R185). -/
def Obligations.CreateTakesLowestEmptySlotOrIsRefused : Prop :=
  (∀ (s : State) (p : Port) (r : Request) (rest : List Request) (i : Slot) (body : Body),
     s.atTurn p .create r rest → r.createsBody body →
     (∀ (j : Slot) (rec : Record), (s.slot j).record = some rec → rec.key ≠ r.word 1) →
     (s.slot i).record = none → (∀ j : Slot, j < i → (s.slot j).record ≠ none) →
     exec (.create p) s = .next ((s.answered p rest ⟨r.tag, .done, [handleWord i (s.slot i).gen]⟩).holding i
       ⟨r.word 1, .live, some p, none, Vector.replicate 4 .off, .absent, body⟩)) ∧
  (∀ (s : State) (p : Port) (r : Request) (rest : List Request), s.atTurn p .create r rest →
     ((∀ body : Body, ¬r.createsBody body) → exec (.create p) s = .next (s.answered p rest ⟨r.tag, .badRequest, []⟩)) ∧
     ((∃ body : Body, r.createsBody body) →
       ((∃ (j : Slot) (rec : Record), (s.slot j).record = some rec ∧ rec.key = r.word 1) →
         exec (.create p) s = .next (s.answered p rest ⟨r.tag, .duplicate, []⟩)) ∧
       ((∀ (j : Slot) (rec : Record), (s.slot j).record = some rec → rec.key ≠ r.word 1) →
         (∀ j : Slot, (s.slot j).record ≠ none) →
         exec (.create p) s = .next (s.answered p rest ⟨r.tag, .tableFull, []⟩))))

/-- RETIRE that passes R3 and R4: with no commitments the slot empties at once and the answer is DONE (R16); with at least
one the waiters are answered CLOSED, the record becomes CLOSING and the RETIRE is held (R17). The commitments of a
record (R6): the entries of a POOL's holding list and the claimed flags of a FLAGS record; the other kinds have none. -/
def Obligations.RetireEmptiesOrHolds : Prop :=
  (∀ rec : Record, rec.committed = true ↔
     match rec.body with
     | .pool b => b.holdings ≠ []
     | .flags b => ∃ n : FlagNo, b.claimants[n.val] ≠ none
     | .counter _ | .sequence _ => False) ∧
  (∀ body : Body, body.withoutWaiters = match body with
     | .pool b => .pool { b with waiters := [] }
     | b => b) ∧
  ∀ (s : State) (p : Port) (r : Request) (rest : List Request) (rec : Record),
    s.atTurn p .retire r rest → s.passes p r rec →
    (rec.committed = false → exec (.retire p) s =
      .next (((s.turnTaken p rest).emptySlot r.target rec rec .done).placeAll [(p, ⟨r.tag, .done, []⟩)])) ∧
    (rec.committed = true → exec (.retire p) s =
      .next (((s.turnTaken p rest).placeAll
        (rec.body.waiters.map fun w => (w.port, (⟨w.tag, .closed, []⟩ : Response)))).updateRecord r.target rec
          { rec with state := .closing, held := .pending p r.tag, body := rec.body.withoutWaiters }))

/-- ADOPT (R21): it belongs to no kind, is not owner-only and is not allowed on a CLOSING record, which it finds with
CLOSING; on a LIVE record an orphan gets the port as its owner and the answer is DONE, with no notice and no other change; an
owned one, whoever owns it, is left with OWNED. A walk step of a draining port makes the owner absent where that port is the
owner and leaves another owner, so an ADOPT before it is OWNED and one after it succeeds. WATCH (R25): it is staged as two words,
belongs to no kind, is not owner-only and is allowed on a CLOSING record; a mode word of 0 to 3 sets the port's own mode on
the record, with DONE, no notice and no other change; another word is BAD-REQUEST. -/
def Obligations.AdoptAndWatchSetTheirField : Prop :=
  ((∀ words : List Word, wordCountOk .watch words = true ↔ words.length = 2) ∧ ReqCode.watch.ownerOnly = false ∧
   ReqCode.watch.allowedClosing = true ∧
   ∀ (r : Request) (k : Kind), r.code = .watch → r.fitsKind k = true) ∧
  ((∀ words : List Word, wordCountOk .adopt words = true ↔ words.length = 1) ∧ ReqCode.adopt.ownerOnly = false ∧
   ReqCode.adopt.allowedClosing = false ∧ (∀ (r : Request) (k : Kind), r.code = .adopt → r.fitsKind k = true) ∧
   (∀ (s : State) (p : Port) (r : Request) (rest : List Request) (rec : Record),
     s.atTurn p .adopt r rest → s.names (r.word 0) rec → rec.state = .closing →
     exec (.adopt p) s = .next (s.answered p rest ⟨r.tag, .closing, []⟩)) ∧
   ∀ (s : State) (p : Port) (i : Slot) (rec : Record), s.turn = some .walker →
     (s.port p).mode = .draining → s.cursors[p.val] = i.val →
     (∀ q : Port, (q.val + 4 - s.servicePos.val) % 4 < (p.val + 4 - s.servicePos.val) % 4 →
       ¬((s.port q).mode = .draining ∧ s.cursors[q.val] < 256)) →
     (s.slot i).record = some rec →
     ∃ t : State, exec .walkStep s = .next t ∧ ∀ rec1, (t.slot i).record = some rec1 →
       (rec.owner = some p → rec1.owner = none) ∧ (rec.owner ≠ some p → rec1.owner = rec.owner)) ∧
  (∀ (s : State) (p : Port) (r : Request) (rest : List Request) (rec : Record),
     s.atTurn p .adopt r rest → s.passes p r rec →
     (rec.owner = none → exec (.adopt p) s =
       .next ((s.answered p rest ⟨r.tag, .done, []⟩).holding r.target { rec with owner := some p })) ∧
     (rec.owner ≠ none → exec (.adopt p) s = .next (s.answered p rest ⟨r.tag, .owned, []⟩))) ∧
  (∀ (s : State) (p : Port) (r : Request) (rest : List Request) (rec : Record),
     s.atTurn p .watch r rest → s.passes p r rec →
     (∀ mode : WatchMode,
       (r.word 1).toNat = (match mode with | .off => 0 | .change => 1 | .alert => 2 | .ended => 3) → exec (.watch p) s =
       .next ((s.answered p rest ⟨r.tag, .done, []⟩).holding r.target { rec with watch := rec.watch.set p.val mode })) ∧
     (3 < (r.word 1).toNat → exec (.watch p) s = .next (s.answered p rest ⟨r.tag, .badRequest, []⟩)))

/-- READ: the handle, the key and the descriptor word, then the body words of the kind; nothing else changes. The descriptor
word (10.4): kind, state, owner, line with its sense, in alert, held retire and the reader's own watch mode, each in its
place, a record being in alert by the condition of its kind. The counter status word (10.3): policy, limit flag, outcome
class and CLIPPED. The claimed set and the reader's own have flag n in bit n. READ_HOLDERS: the units of P0 to P3 and the number of waiters; no other change. -/
def Obligations.ReadAndReadHoldersGiveTheRecord : Prop :=
  (∀ (rec : Record) (p : Port), (rec.descriptor p).toNat =
     (match rec.body with | .pool _ => 0 | .counter _ => 1 | .flags _ => 2 | .sequence _ => 3) * 16384 +
     (if rec.state = .closing then 8192 else 0) +
     (match rec.owner with | none => 0 | some q => 4096 + q.val * 1024) +
     (match rec.line with | none => 0 | some a => 512 + a.line.val * 64 + (if a.sense = .inverted then 32 else 0)) +
     (if rec.inAlert then 16 else 0) +
     (match rec.held with | .absent => 0 | .pending _ _ => 4 | .discarded => 8) +
     (match rec.watch[p.val] with | .off => 0 | .change => 1 | .alert => 2 | .ended => 3)) ∧
  (∀ rec : Record, rec.inAlert = true ↔ match rec.body with
     | .pool b => b.level < b.lowMark
     | .counter c => c.value < c.lowMark ∨ c.highMark < c.value
     | .flags b => b.alertMask ≠ 0 ∧ ∀ n : FlagNo, b.alertMask.getLsbD n.val = true → b.flags.getLsbD n.val = true
     | .sequence b => b.remaining < b.lowMark) ∧
  (∀ (c : Counter) (clipped : Bool), (c.statusWord clipped).toNat =
     (if c.policy = .clip then 1 else 0) + (if c.limitFlag then 2 else 0) +
     (if c.value = 0 then 0 else if c.value < 0 then 4 else 8) + (if clipped then 16 else 0)) ∧
  (∀ (b : FlagSet) (p : Port) (n : FlagNo), b.claimed.getLsbD n.val = b.claimants[n.val].isSome ∧
     (b.claimedBy p).getLsbD n.val = (b.claimants[n.val] == some p)) ∧
  (∀ (s : State) (p : Port) (r : Request) (rest : List Request) (rec : Record),
     s.atTurn p .read r rest → s.passes p r rec →
     let answer := fun body : List Word =>
       Host.Outcome.next (φ := Fault) (ρ := Refusal)
         (s.answered p rest ⟨r.tag, .done, [r.word 0, rec.key, rec.descriptor p] ++ body⟩)
     (∀ b, rec.body = .pool b →
       exec (.read p) s = answer [natWord b.stock, natWord b.level, natWord b.lowMark, natWord (b.unitsOf p)]) ∧
     (∀ c, rec.body = .counter c → exec (.read p) s =
       answer [intWord c.value, intWord c.floor, intWord c.ceiling, intWord c.lowMark, intWord c.highMark,
         c.statusWord false]) ∧
     (∀ b, rec.body = .flags b → exec (.read p) s = answer [b.flags, b.claimed, b.claimedBy p, b.alertMask]) ∧
     (∀ b, rec.body = .sequence b →
       exec (.read p) s = answer [b.next, intWord b.step, natWord b.remaining, natWord b.lowMark])) ∧
  (∀ (s : State) (p : Port) (r : Request) (rest : List Request) (rec : Record) (b : Pool),
     s.atTurn p .readHolders r rest → s.passes p r rec → rec.body = .pool b →
     exec (.readHolders p) s = .next (s.answered p rest ⟨r.tag, .done,
       [natWord (b.unitsOf 0), natWord (b.unitsOf 1), natWord (b.unitsOf 2), natWord (b.unitsOf 3),
         natWord b.waiters.length]⟩))

/-- ASSIGN_LINE: the line field takes the assignment, the old line's count falls by one if the record contributed and the new
line's rises by one if it contributes, and nothing else changes; a word that is no assignment is BAD-REQUEST. -/
def Obligations.AssignLineMovesTheContribution : Prop :=
  ∀ (s : State) (p : Port) (r : Request) (rest : List Request) (rec : Record),
    s.atTurn p .assignLine r rest → s.passes p r rec →
    (∀ line : Option LineAssignment,
      (r.word 1 = 0 ∧ line = none ∨
        ∃ (x : LineNo) (inverted : Bool),
          r.word 1 = 0x0100#16 ||| BitVec.ofNat 16 x.val ||| (if inverted then 0x0010#16 else 0) ∧
          line = some ⟨x, if inverted then .inverted else .normal⟩) →
      ∃ counts : Vector Nat 8,
        exec (.assignLine p) s = .next { ((s.answered p rest ⟨r.tag, .done, []⟩).holding r.target
          { rec with line := line }) with lineCounts := counts } ∧
        ∀ x : LineNo, counts[x.val] = s.lineCounts[x.val] -
          (if SlotState.contributesTo x ⟨0, some rec⟩ then 1 else 0) +
          (if SlotState.contributesTo x ⟨0, some { rec with line := line }⟩ then 1 else 0)) ∧
    ((r.word 1 ≠ 0 ∧ (r.word 1).getLsbD 8 = false) ∨
        ((r.word 1).getLsbD 8 = true ∧ r.word 1 &&& 0xFEE8#16 ≠ 0) →
      exec (.assignLine p) s = .next (s.answered p rest ⟨r.tag, .badRequest, []⟩))

/-- LIMITS of 2 words on a POOL, a SEQUENCE or a FLAGS record: the low mark or the alert mask becomes the limit word, and the
rest of the body stays; a record with no line then changes in nothing but what the change report of R11 brings. LIMITS of 5
words on a COUNTER: BAD-REQUEST for floor above ceiling or low mark above high mark; else the four limits are set, and a
value outside the new range becomes the nearer bound with the limit flag set and CLIPPED answered. -/
def Obligations.LimitsSetsTheKindsLimits : Prop :=
  (∀ (s : State) (p : Port) (r : Request) (rest : List Request) (rec : Record),
     s.atTurn p .limits r rest → s.passes p r rec →
     let ends := fun body : Body => Host.Outcome.next (φ := Fault) (ρ := Refusal)
       (((s.turnTaken p rest).placeAll [(p, ⟨r.tag, .done, []⟩)]).updateRecord r.target rec { rec with body := body })
     (∀ b, rec.body = .pool b → exec (.limits p) s = ends (.pool { b with lowMark := (r.word 1).toNat })) ∧
     (∀ b, rec.body = .flags b → exec (.limits p) s = ends (.flags { b with alertMask := r.word 1 })) ∧
     (∀ b, rec.body = .sequence b → exec (.limits p) s = ends (.sequence { b with lowMark := (r.word 1).toNat }))) ∧
  (∀ (s : State) (p : Port) (r : Request) (rest : List Request) (rec : Record) (b : Counter),
     s.atTurn p .limits r rest → s.passes p r rec → rec.body = .counter b →
     let floor := (r.word 1).toInt
     let ceiling := (r.word 2).toInt
     let low := (r.word 3).toInt
     let high := (r.word 4).toInt
     let ends := fun (value : Int) (flag clipped : Bool) =>
       let b1 : Counter := { b with
         floor := floor, ceiling := ceiling, lowMark := low, highMark := high, value := value, limitFlag := flag }
       exec (.limits p) s = .next (((s.turnTaken p rest).placeAll
         [(p, ⟨r.tag, .done, [intWord value, b1.statusWord clipped]⟩)]).updateRecord
           r.target rec { rec with body := .counter b1 })
     (ceiling < floor ∨ high < low → exec (.limits p) s = .next (s.answered p rest ⟨r.tag, .badRequest, []⟩)) ∧
     (floor ≤ ceiling → low ≤ high →
       (floor ≤ b.value → b.value ≤ ceiling → ends b.value b.limitFlag false) ∧
       (b.value < floor → ends floor true true) ∧ (ceiling < b.value → ends ceiling true true)))

/-! ### Finding -/

/-- FIND: the lowest slot whose record has the key is answered DONE with its handle, and NOT-FOUND when none has it; no other
change. SCAN: a start slot above 256, a filter above 4 or a set unused bit is BAD-REQUEST; else the lowest slot at or above
the start whose record agrees with the match value under the mask and is of the kind asked for gives its handle and key, and
NOT-FOUND answers when there is none; no other change. -/
def Obligations.FindAndScanReturnHandles : Prop :=
  (∀ (s : State) (p : Port) (r : Request) (rest : List Request), s.atTurn p .find r rest →
     (∀ (i : Slot) (rec : Record), (s.slot i).record = some rec → rec.key = r.word 0 →
       (∀ (j : Slot) (a : Record), j < i → (s.slot j).record = some a → a.key ≠ r.word 0) →
       exec (.find p) s = .next (s.answered p rest ⟨r.tag, .done, [handleWord i (s.slot i).gen]⟩)) ∧
     ((∀ (i : Slot) (rec : Record), (s.slot i).record = some rec → rec.key ≠ r.word 0) →
       exec (.find p) s = .next (s.answered p rest ⟨r.tag, .notFound, []⟩))) ∧
  (∀ (s : State) (p : Port) (r : Request) (rest : List Request), s.atTurn p .scan r rest →
     let start := (r.word 2).toNat % 512
     let filter := (r.word 2).toNat / 512 % 16
     let inRange := start ≤ 256 ∧ filter ≤ 4 ∧ (r.word 2).toNat < 8192
     let fits := fun (i : Slot) (rec : Record) => start ≤ i.val ∧ (s.slot i).record = some rec ∧
       rec.key &&& r.word 1 = r.word 0 &&& r.word 1 ∧ (filter = 0 ∨
         filter = match rec.body with | .pool _ => 1 | .counter _ => 2 | .flags _ => 3 | .sequence _ => 4)
     (¬inRange → exec (.scan p) s = .next (s.answered p rest ⟨r.tag, .badRequest, []⟩)) ∧
     (inRange →
       (∀ (i : Slot) (rec : Record), fits i rec → (∀ (j : Slot) (a : Record), j < i → ¬fits j a) →
         exec (.scan p) s = .next (s.answered p rest ⟨r.tag, .done, [handleWord i (s.slot i).gen, rec.key]⟩)) ∧
       ((∀ (i : Slot) (rec : Record), ¬fits i rec) →
         exec (.scan p) s = .next (s.answered p rest ⟨r.tag, .notFound, []⟩))))

/-! ### POOL records -/

/-- ACQUIRE, R48's checks from the third on, and R49: the level falls, the port's entry gains the units, and the answer is
the level; a refusal changes nothing but HOLDING-EXHAUSTED where NO-HOLDING-ENTRY answers (R47). An entry that gains units
keeps its place, and with no entry of the port a new one joins the tail of the list (R41, R49). -/
def Obligations.AcquireTakesUnitsOrIsRefused : Prop :=
  (∀ (p : Port) (n : Nat),
     (∀ (front : List Holding) (h : Holding) (back : List Holding), (∀ x ∈ front, x.port ≠ p) → h.port = p →
       addUnits p n (front ++ h :: back) = front ++ ⟨p, h.units + n⟩ :: back) ∧
     ∀ hs : List Holding, (∀ x ∈ hs, x.port ≠ p) → addUnits p n hs = hs ++ [⟨p, n⟩]) ∧
  ∀ (s : State) (p : Port) (r : Request) (rest : List Request) (rec : Record) (b : Pool),
    s.atTurn p .acquire r rest → s.passes p r rec → rec.body = .pool b →
    let n := (r.word 1).toNat
    (n = 0 → exec (.acquire p) s = .next (s.answered p rest ⟨r.tag, .badRequest, []⟩)) ∧
    (n ≠ 0 → b.waiters ≠ [] ∨ b.level < n → exec (.acquire p) s = .next (s.answered p rest ⟨r.tag, .short, []⟩)) ∧
    (n ≠ 0 → b.waiters = [] → n ≤ b.level → b.lists p = false → s.freeHoldings = 0 →
      exec (.acquire p) s = .next { s.answered p rest ⟨r.tag, .noHoldingEntry, []⟩ with
        mattnReasons := s.mattnReasons ||| 0x40#8 }) ∧
    (n ≠ 0 → b.waiters = [] → n ≤ b.level → b.lists p = true ∨ s.freeHoldings ≠ 0 →
      exec (.acquire p) s = .next (((s.turnTaken p rest).placeAll [(p, ⟨r.tag, .done, [natWord (b.level - n)]⟩)]).updateRecord
        r.target rec { rec with body := .pool { b with level := b.level - n, holdings := addUnits p n b.holdings } }))

/-- ACQUIRE_WAIT, R66's checks from the third on: BAD-REQUEST, SHORT, the service at once of R67, NO-WAITER with
WAITER-EXHAUSTED, NO-HOLDING-ENTRY with HOLDING-EXHAUSTED, and the queuing of R68. -/
def Obligations.AcquireWaitServesQueuesOrRefuses : Prop :=
  ∀ (s : State) (p : Port) (r : Request) (rest : List Request) (rec : Record) (b : Pool),
    s.atTurn p .acquireWait r rest → s.passes p r rec → rec.body = .pool b →
    let n := (r.word 1).toNat
    let timeout := (r.word 2).toNat
    (n = 0 ∨ 4095 < timeout → exec (.acquireWait p) s = .next (s.answered p rest ⟨r.tag, .badRequest, []⟩)) ∧
    (n ≠ 0 → timeout ≤ 4095 →
      (b.stock < n → exec (.acquireWait p) s = .next (s.answered p rest ⟨r.tag, .short, []⟩)) ∧
      (n ≤ b.stock → b.waiters = [] → n ≤ b.level →
        (b.lists p = false → s.freeHoldings = 0 →
          exec (.acquireWait p) s = .next { s.answered p rest ⟨r.tag, .noHoldingEntry, []⟩ with
            mattnReasons := s.mattnReasons ||| 0x40#8 }) ∧
        (b.lists p = true ∨ s.freeHoldings ≠ 0 →
          exec (.acquireWait p) s =
            .next (((s.turnTaken p rest).placeAll [(p, ⟨r.tag, .done, [natWord (b.level - n)]⟩)]).updateRecord r.target rec
              { rec with body := .pool { b with level := b.level - n, holdings := addUnits p n b.holdings } }))) ∧
      (n ≤ b.stock → b.waiters ≠ [] ∨ b.level < n →
        (s.freeWaiters = 0 → exec (.acquireWait p) s = .next { s.answered p rest ⟨r.tag, .noWaiter, []⟩ with
          mattnReasons := s.mattnReasons ||| 0x80#8 }) ∧
        (s.freeWaiters ≠ 0 → b.lists p = false → s.freeHoldings = 0 →
          exec (.acquireWait p) s = .next { s.answered p rest ⟨r.tag, .noHoldingEntry, []⟩ with
            mattnReasons := s.mattnReasons ||| 0x40#8 }) ∧
        (s.freeWaiters ≠ 0 → b.lists p = true ∨ s.freeHoldings ≠ 0 →
          exec (.acquireWait p) s = .next ((s.turnTaken p rest).updateRecord r.target rec { rec with body := .pool { b with
            waiters := b.waiters ++
              [⟨p, r.tag, n, if timeout = 0 then none else some timeout, !b.lists p⟩] } }))))

/-- RELEASE: BAD-REQUEST for 0 units, NOT-HELD for more than the port holds; else the units go back, the cascade runs, and
the DONE with the level after it joins behind the cascade's responses. A release of part of the entry leaves it in its place
with the units less; one of all of it takes it off the list, the entries behind closing up, and where the port has waiters on
the record and none carries a reservation the entry becomes the reservation of the oldest of them (R45, R52); no other waiter
is touched. -/
def Obligations.ReleaseReturnsUnitsAndCascades : Prop :=
  ∀ (s : State) (p : Port) (r : Request) (rest : List Request) (rec : Record) (b : Pool),
    s.atTurn p .release r rest → s.passes p r rec → rec.body = .pool b →
    let n := (r.word 1).toNat
    let c := (b.giveBack p n).cascade
    (n = 0 → exec (.release p) s = .next (s.answered p rest ⟨r.tag, .badRequest, []⟩)) ∧
    (n ≠ 0 → b.unitsOf p < n → exec (.release p) s = .next (s.answered p rest ⟨r.tag, .notHeld, []⟩)) ∧
    (n ≠ 0 → n ≤ b.unitsOf p →
      exec (.release p) s = .next ((s.turnTaken p rest).finishEvent r.target rec { rec with body := .pool c.1 }
        (c.2 ++ [(p, ⟨r.tag, .done, [natWord c.1.level]⟩)])) ∧
      (b.giveBack p n).level = b.level + n ∧
      (b.giveBack p n).stock = b.stock ∧ (b.giveBack p n).lowMark = b.lowMark ∧
      (b.unitsOf p = n → (b.giveBack p n).holdings = b.holdings.filter (fun h => h.port != p) ∧
        ((∃ w ∈ b.waiters, w.port = p ∧ w.reserved = true) ∨ (∀ w ∈ b.waiters, w.port ≠ p) →
          (b.giveBack p n).waiters = b.waiters) ∧
        ∀ (front : List Waiter) (w : Waiter) (back : List Waiter), b.waiters = front ++ w :: back → w.port = p →
          (∀ v ∈ front, v.port ≠ p) → (∀ v ∈ b.waiters, v.port = p → v.reserved = false) →
          (b.giveBack p n).waiters = front ++ { w with reserved := true } :: back) ∧
      (∀ (front : List Holding) (h : Holding) (back : List Holding), n < b.unitsOf p → b.holdings = front ++ h :: back →
        h.port = p → (∀ x ∈ front, x.port ≠ p) →
        (b.giveBack p n).holdings = front ++ ⟨p, h.units - n⟩ :: back) ∧
      (n < b.unitsOf p → (b.giveBack p n).waiters = b.waiters ∧ (b.giveBack p n).unitsOf p = b.unitsOf p - n ∧
        (b.giveBack p n).holdings.map (·.port) = b.holdings.map (·.port)))

/-- RESTOCK: a delta of 0 answers stock and level; a positive one is LIMIT above 65535, else it raises both and the cascade
runs; a negative one is SHORT above the level, else it lowers both, ends the waiters above the new stock with SHORT, and the
cascade runs. The DONE carries the stock and the level at the end. Responses to ended and granted waiters stand in queue
order, the model's reading of R12 (notes/assumptions/18.md). What that merge of responses is, EndedWaitersLeaveTheQueue says
response by response. -/
def Obligations.RestockMovesStockAndLevel : Prop :=
  ∀ (s : State) (p : Port) (r : Request) (rest : List Request) (rec : Record) (b : Pool),
    s.atTurn p .restock r rest → s.passes p r rec → rec.body = .pool b →
    let delta := (r.word 1).toInt
    let n := delta.natAbs
    let up := ({ b with stock := b.stock + n, level := b.level + n } : Pool).cascade
    let low : Pool := { b with stock := b.stock - n, level := b.level - n }
    let above := fun w : Waiter => decide (low.stock < w.units)
    let down := (low.endWaiters above).cascade
    let done := fun b : Pool => (p, (⟨r.tag, .done, [natWord b.stock, natWord b.level]⟩ : Response))
    (delta = 0 → exec (.restock p) s = .next (s.answered p rest (done b).2)) ∧
    (0 < delta → 65535 < b.stock + n → exec (.restock p) s = .next (s.answered p rest ⟨r.tag, .limit, []⟩)) ∧
    (0 < delta → b.stock + n ≤ 65535 → exec (.restock p) s =
      .next ((s.turnTaken p rest).finishEvent r.target rec { rec with body := .pool up.1 } (up.2 ++ [done up.1]))) ∧
    (delta < 0 → b.level < n → exec (.restock p) s = .next (s.answered p rest ⟨r.tag, .short, []⟩)) ∧
    (delta < 0 → n ≤ b.level → exec (.restock p) s =
      .next ((s.turnTaken p rest).finishEvent r.target rec { rec with body := .pool down.1 }
        (mergeResponses above (some .short) b.waiters down.2 ++ [done down.1])))

/-! ### Waiters and the Wait Clock -/

/-- The grant of a head waiter (R73) and the command GRANT: the level falls by its units; its port's entry gains them, or a
new entry joins the tail; the waiter leaves the queue; where it brought no reservation and its port had no entry, the newest
waiter of the port that carries one gives it and waits on without one; and its port is answered DONE with the level after the
grant. That a GRANT is also a command of its own is the model's choice (notes/assumptions/15.md). -/
def Obligations.GrantOfTheHeadWaiter : Prop :=
  (∀ p : Port,
     (∀ (front : List Waiter) (v : Waiter) (back : List Waiter), v.port = p → v.reserved = true →
       (∀ u ∈ back, ¬(u.port = p ∧ u.reserved = true)) →
       takeReservation p (front ++ v :: back) = front ++ { v with reserved := false } :: back) ∧
     ∀ ws : List Waiter, (∀ u ∈ ws, ¬(u.port = p ∧ u.reserved = true)) → takeReservation p ws = ws) ∧
  (∀ (p : Port) (n : Nat),
     (∀ (front : List Holding) (h : Holding) (back : List Holding), (∀ x ∈ front, x.port ≠ p) → h.port = p →
       addUnits p n (front ++ h :: back) = front ++ ⟨p, h.units + n⟩ :: back) ∧
     ∀ hs : List Holding, (∀ x ∈ hs, x.port ≠ p) → addUnits p n hs = hs ++ [⟨p, n⟩]) ∧
  ∀ (s : State) (i : Slot) (rec : Record) (b : Pool) (w : Waiter) (rest : List Waiter),
    s.inService → (s.slot i).record = some rec → rec.body = .pool b → b.waiters = w :: rest → w.units ≤ b.level →
    let b1 : Pool := { b with
      level := b.level - w.units
      holdings := addUnits w.port w.units b.holdings
      waiters := if b.lists w.port = true ∨ w.reserved = true then rest else takeReservation w.port rest }
    exec (.grant i) s = .next (s.finishEvent i rec { rec with body := .pool b1 }
      [(w.port, ⟨w.tag, .done, [natWord (b.level - w.units)]⟩)])

/-- The grant cascade (R72, R74): it grants the waiters at the front of the queue, each answered DONE with the level after
its own grant, while the head's units do not exceed the level, and stops at a head whose units exceed it; stock and low mark
stay. The units pass from the level to the holdings: the held units rise by what is granted, each port's units by its own
grants, and the entries already listed keep their places, a port's new entry joining behind them (R41). The units a port holds
are those of its entry, none without one, and the held units are those of all entries (R40, R41). -/
def Obligations.CascadeGrantsFromTheFront : Prop :=
  (∀ b : Pool, b.heldUnits = (b.holdings.map (·.units)).sum ∧
     ∀ p : Port, (b.lists p = true ↔ ∃ h ∈ b.holdings, h.port = p) ∧ (b.lists p = false → b.unitsOf p = 0) ∧
       ∀ (front : List Holding) (h : Holding) (back : List Holding), b.holdings = front ++ h :: back → h.port = p →
         (∀ x ∈ front, x.port ≠ p) → b.unitsOf p = h.units) ∧
  ∀ b : Pool, ∃ k : Nat, k ≤ b.waiters.length ∧
    b.cascade.2.map (fun x => (x.1, x.2.tag)) = (b.waiters.take k).map (fun w => (w.port, w.tag)) ∧
    b.cascade.1.waiters.map (fun w => (w.port, w.tag, w.units, w.timeout)) =
      (b.waiters.drop k).map (fun w => (w.port, w.tag, w.units, w.timeout)) ∧
    b.cascade.1.level + ((b.waiters.take k).map (·.units)).sum = b.level ∧
    (∀ j : Nat, j < k → b.cascade.2[j]?.map (fun x => (x.2.result, x.2.data)) =
      some (.done, [natWord (b.level - ((b.waiters.take (j + 1)).map (·.units)).sum)])) ∧
    (∀ w, b.cascade.1.waiters.head? = some w → b.cascade.1.level < w.units) ∧
    b.cascade.1.stock = b.stock ∧ b.cascade.1.lowMark = b.lowMark ∧
    b.cascade.1.heldUnits = b.heldUnits + ((b.waiters.take k).map (·.units)).sum ∧
    (∀ p : Port, b.cascade.1.unitsOf p =
      b.unitsOf p + (((b.waiters.take k).filter (fun w => w.port == p)).map (·.units)).sum) ∧
    (∀ p : Port, b.cascade.1.lists p = true ↔ b.lists p = true ∨ ∃ w ∈ b.waiters.take k, w.port = p) ∧
    b.holdings.map (·.port) <+: b.cascade.1.holdings.map (·.port)

/-- Waiters that end other than by grant (R71): the others keep their order and their fields, but that a freed reservation is
handed to another waiter of the same port without one, the oldest first, when the port has no listed entry (R45); the level
and the holding list stay. How several freed reservations are handed on is the model's reading of R45 and R71
(notes/assumptions/19.md). The responses of one event that ends waiters and then runs the cascade: each waiter that ended
gets the event's result, each that the cascade grants its DONE with the level after its own grant, each once, in the order
the waiters stood in the queue, the model's reading of R12 (notes/assumptions/18.md). -/
def Obligations.EndedWaitersLeaveTheQueue : Prop :=
  (∀ (b : Pool) (q : Waiter → Bool),
    (b.endWaiters q).waiters.map (fun w => (w.port, w.tag, w.units, w.timeout)) =
      (b.waiters.filter (fun w => !q w)).map (fun w => (w.port, w.tag, w.units, w.timeout)) ∧
    (b.endWaiters q).holdings = b.holdings ∧ (b.endWaiters q).level = b.level ∧ (b.endWaiters q).stock = b.stock ∧
    (b.endWaiters q).lowMark = b.lowMark ∧
    (∀ p : Port, b.lists p = true →
      (b.endWaiters q).waiters.filter (fun w => w.port == p) =
        (b.waiters.filter (fun w => !q w)).filter (fun w => w.port == p)) ∧
    (∀ p : Port, b.lists p = false →
      ((b.endWaiters q).waiters.countP fun w => w.port == p && w.reserved) =
        min (b.waiters.countP fun w => w.port == p && w.reserved) (b.waiters.countP fun w => w.port == p && !q w)) ∧
    (let kept := b.waiters.filter (fun w => !q w)
     ∀ (j : Nat) (w : Waiter), kept[j]? = some w → b.lists w.port = false →
       ((b.endWaiters q).waiters[j]?).map (·.reserved) = some (w.reserved ||
         decide ((kept.take j).countP (fun v => v.port == w.port && !v.reserved) <
           b.waiters.countP (fun v => v.port == w.port && v.reserved && q v))))) ∧
  (∀ (b : Pool) (q : Waiter → Bool) (result : ResultCode),
    let kept := b.waiters.filter (fun w => !q w)
    let c := (b.endWaiters q).cascade
    mergeResponses q (some result) b.waiters c.2 =
      (List.range b.waiters.length).filterMap fun j => (b.waiters[j]?).bind fun w =>
        let n := (b.waiters.take j).countP (fun v => !q v)
        if q w then some (w.port, ⟨w.tag, result, []⟩)
        else if n < c.2.length then
          some (w.port, ⟨w.tag, .done, [natWord (b.level - ((kept.take (n + 1)).map (·.units)).sum)]⟩)
        else none)

/-- CANCEL: BAD-REQUEST above 15, NOT-FOUND without a waiter of the port under the tag, with no other change; else the waiter
ends with CANCELLED, the cascade runs if it was the head, and the CANCEL's DONE comes last. Responses stand in queue order
(notes/assumptions/18.md). -/
def Obligations.CancelEndsThePortsWaiter : Prop :=
  ∀ (s : State) (p : Port) (r : Request) (rest : List Request), s.atTurn p .cancel r rest →
    (15 < (r.word 0).toNat → exec (.cancel p) s = .next (s.answered p rest ⟨r.tag, .badRequest, []⟩)) ∧
    (∀ tag : Tag, (r.word 0).toNat = tag.toNat →
      ((∀ i : Slot, ∀ w ∈ (s.slot i).waiters, ¬(w.port = p ∧ w.tag = tag)) →
        exec (.cancel p) s = .next (s.answered p rest ⟨r.tag, .notFound, []⟩)) ∧
      ∀ (i : Slot) (rec : Record) (b : Pool) (front back : List Waiter) (w : Waiter),
        (s.slot i).record = some rec → rec.body = .pool b → b.waiters = front ++ w :: back → w.port = p → w.tag = tag →
        (∀ v ∈ front ++ back, ¬(v.port = p ∧ v.tag = tag)) →
        (∀ j : Slot, j < i → ∀ v ∈ (s.slot j).waiters, ¬(v.port = p ∧ v.tag = tag)) →
        let left := b.endWaiters (fun v => v.port == p && v.tag == tag)
        (front = [] → exec (.cancel p) s = .next ((s.turnTaken p rest).finishEvent i rec
          { rec with body := .pool left.cascade.1 }
          ((p, ⟨tag, .cancelled, []⟩) :: left.cascade.2 ++ [(p, ⟨r.tag, .done, []⟩)]))) ∧
        (front ≠ [] → exec (.cancel p) s = .next ((s.turnTaken p rest).finishEvent i rec { rec with body := .pool left }
          [(p, ⟨tag, .cancelled, []⟩), (p, ⟨r.tag, .done, []⟩)])))

/-- UNIT_BOUNDARY: every timeout remaining of 1 or more falls by one and nothing else of a record changes; each record with a
waiter that reaches 0 has its one expiry event; and a new unit starts. While RESET is asserted the clock stands. That the
command lets time pass to the end of the unit is the model's choice (notes/assumptions/7.md). That it stands then is the
model's reading of R168 (notes/assumptions/8.md); outside READY a boundary reaches no waiter (R171). -/
def Obligations.UnitBoundaryCountsDown : Prop :=
  ∀ s : State,
    (s.resetAsserted = true → exec .unitBoundary s = .next s) ∧
    (s.resetAsserted = false → s.condition ≠ .ready → exec .unitBoundary s = .next { s with unitPos := 0 }) ∧
    (s.inService → ∃ (slots : Vector SlotState 256) (events : List (Slot × Gen)),
      exec .unitBoundary s = .next { s with slots := slots, expiryEvents := s.expiryEvents ++ events, unitPos := 0 } ∧
      (∀ i : Slot, slots[i.val].gen = (s.slot i).gen ∧
        ((s.slot i).record = none → slots[i.val].record = none) ∧
        ∀ rec, (s.slot i).record = some rec →
          (∀ b, rec.body = .pool b → slots[i.val].record = some { rec with body := .pool { b with
            waiters := b.waiters.map fun w => { w with timeout := w.timeout.map fun t => t - 1 } } }) ∧
          ((∀ b, rec.body ≠ .pool b) → slots[i.val].record = some rec)) ∧
      (∀ (i : Slot) (g : Gen), (i, g) ∈ events ↔
        (s.slot i).gen = g ∧ (i, g) ∉ s.expiryEvents ∧ ∃ w ∈ (s.slot i).waiters, w.timeout = some 1) ∧
      events.Nodup)

/-- EXPIRY of a POOL record: the event is taken off, every waiter at 0 ends with TIMEOUT, and the cascade runs when the head
was among them. On an EMPTY slot or another generation it does nothing else. That handed-on expiry events are kept as a list
is the model's reading (notes/assumptions/16.md). The TIMEOUTs and the DONEs of the cascade stand in queue order, as
EndedWaitersLeaveTheQueue spells out, the model's reading of R12 (notes/assumptions/18.md). -/
def Obligations.ExpiryEndsWaitersAtZero : Prop :=
  ∀ (s : State) (i : Slot) (g : Gen), s.inService → (i, g) ∈ s.expiryEvents →
    let s1 : State := { s with expiryEvents := s.expiryEvents.erase (i, g) }
    ((s.slot i).record = none ∨ (s.slot i).gen ≠ g → exec (.expiry i g) s = .next s1) ∧
    (∀ (rec : Record) (b : Pool), (s.slot i).record = some rec → (s.slot i).gen = g → rec.body = .pool b →
      let ended := fun w : Waiter => w.timeout == some 0
      let left := b.endWaiters ended
      ((∃ w, b.waiters.head? = some w ∧ w.timeout = some 0) → exec (.expiry i g) s =
        .next (s1.finishEvent i rec { rec with body := .pool left.cascade.1 }
          (mergeResponses ended (some .timeout) b.waiters left.cascade.2))) ∧
      ((∀ w, b.waiters.head? = some w → w.timeout ≠ some 0) → exec (.expiry i g) s =
        .next (s1.finishEvent i rec { rec with body := .pool left }
          ((b.waiters.filter ended).map fun w => (w.port, (⟨w.tag, .timeout, []⟩ : Response))))))

/-! ### COUNTER, FLAGS and SEQUENCE records -/

/-- ADD, SET and COMPARE_SET: the target inside the range becomes the value, with DONE; outside it the limit flag is set, and
the value stays with LIMIT under REJECT and becomes the nearer bound with DONE and CLIPPED under CLIP. A COMPARE_SET that
finds another value answers MISMATCH and changes nothing. CLEAR_LIMIT clears the flag. Each answers the value word and the
counter status word. The counter status word (10.3) has the policy in bit 0, the limit flag in bit 1, the outcome class in
bits 3 and 2 and CLIPPED in bit 4. -/
def Obligations.CounterRequestsApplyTheirTarget : Prop :=
  (∀ (c : Counter) (clipped : Bool), (c.statusWord clipped).toNat =
     (if c.policy = .clip then 1 else 0) + (if c.limitFlag then 2 else 0) +
     (if c.value = 0 then 0 else if c.value < 0 then 4 else 8) + (if clipped then 16 else 0)) ∧
  ∀ (s : State) (p : Port) (c : ReqCode) (i : Instr) (r : Request) (rest : List Request) (rec : Record) (b : Counter),
    ReqCode.taken p c = some i → s.atTurn p c r rest → s.passes p r rec → rec.body = .counter b → b.floor ≤ b.ceiling →
    let ends := fun (b1 : Counter) (result : ResultCode) (clipped : Bool) =>
      exec i s = .next (((s.turnTaken p rest).placeAll
        [(p, ⟨r.tag, result, [intWord b1.value, b1.statusWord clipped]⟩)]).updateRecord
          r.target rec { rec with body := .counter b1 })
    let applies := fun target : Int =>
      (b.floor ≤ target → target ≤ b.ceiling → ends { b with value := target } .done false) ∧
      (target < b.floor ∨ b.ceiling < target → b.policy = .reject → ends { b with limitFlag := true } .limit false) ∧
      (target < b.floor → b.policy = .clip → ends { b with limitFlag := true, value := b.floor } .done true) ∧
      (b.ceiling < target → b.policy = .clip → ends { b with limitFlag := true, value := b.ceiling } .done true)
    (c = .add → applies (b.value + (r.word 1).toInt)) ∧
    (c = .set → applies (r.word 1).toInt) ∧
    (c = .compareSet → b.value = (r.word 1).toInt → applies (r.word 2).toInt) ∧
    (c = .compareSet → b.value ≠ (r.word 1).toInt →
      exec i s = .next (s.answered p rest ⟨r.tag, .mismatch, [intWord b.value, b.statusWord false]⟩)) ∧
    (c = .clearLimit → ends { b with limitFlag := false } .done false)

/-- SET_FLAGS, CLEAR_FLAGS and TOGGLE_FLAGS: each flag that the mask selects and no port claims is set, cleared or inverted,
every other flag stays, and the answer gives the flags and the claimed part of the mask. CLAIM takes the lowest flag that the
mask selects and that is clear, and NO-FREE-FLAG answers when there is none. UNCLAIM gives up a flag the port claims:
BAD-REQUEST above 15, NOT-HELD for a flag the port does not claim. -/
def Obligations.FlagRequestsRespectClaims : Prop :=
  (∀ (s : State) (p : Port) (c : ReqCode) (i : Instr) (r : Request) (rest : List Request) (rec : Record) (b : FlagSet),
     ReqCode.taken p c = some i → s.atTurn p c r rest → s.passes p r rec → rec.body = .flags b →
     c = .setFlags ∨ c = .clearFlags ∨ c = .toggleFlags →
     ∃ flags skipped : Word,
       exec i s = .next (((s.turnTaken p rest).placeAll [(p, ⟨r.tag, .done, [flags, skipped]⟩)]).updateRecord r.target rec
         { rec with body := .flags { b with flags := flags } }) ∧
       ∀ n : FlagNo,
         (skipped.getLsbD n.val = ((r.word 1).getLsbD n.val && b.claimants[n.val].isSome)) ∧
         ((r.word 1).getLsbD n.val = true → b.claimants[n.val] = none →
           flags.getLsbD n.val = (match c with
             | .setFlags => true
             | .clearFlags => false
             | _ => !b.flags.getLsbD n.val)) ∧
         ((r.word 1).getLsbD n.val = false ∨ b.claimants[n.val] ≠ none → flags.getLsbD n.val = b.flags.getLsbD n.val)) ∧
  (∀ (s : State) (p : Port) (r : Request) (rest : List Request) (rec : Record) (b : FlagSet),
     s.passes p r rec → rec.body = .flags b →
     (s.atTurn p .claim r rest →
       ((∀ n : FlagNo, (r.word 1).getLsbD n.val = true → b.flags.getLsbD n.val = true) →
         exec (.claim p) s = .next (s.answered p rest ⟨r.tag, .noFreeFlag, []⟩)) ∧
       ∀ n : FlagNo, (r.word 1).getLsbD n.val = true → b.flags.getLsbD n.val = false →
         (∀ m : FlagNo, m < n → (r.word 1).getLsbD m.val = true → b.flags.getLsbD m.val = true) →
         exec (.claim p) s = .next (((s.turnTaken p rest).placeAll
           [(p, ⟨r.tag, .done, [natWord n.val, b.flags ||| (1#16 <<< n.val)]⟩)]).updateRecord r.target rec
             { rec with body := .flags { b with
               flags := b.flags ||| (1#16 <<< n.val), claimants := b.claimants.set n.val (some p) } })) ∧
     (s.atTurn p .unclaim r rest →
       (15 < (r.word 1).toNat → exec (.unclaim p) s = .next (s.answered p rest ⟨r.tag, .badRequest, []⟩)) ∧
       ∀ n : FlagNo, (r.word 1).toNat = n.val →
         (b.claimants[n.val] ≠ some p → exec (.unclaim p) s = .next (s.answered p rest ⟨r.tag, .notHeld, []⟩)) ∧
         (b.claimants[n.val] = some p →
           exec (.unclaim p) s = .next ((s.turnTaken p rest).finishEvent r.target rec
             { rec with body := .flags { b with
               flags := b.flags &&& ~~~(1#16 <<< n.val), claimants := b.claimants.set n.val none } }
             [(p, ⟨r.tag, .done, [b.flags &&& ~~~(1#16 <<< n.val)]⟩)]))))

/-- NEXT issues n values from next, which wraps modulo 65536, and remaining falls by n; BAD-REQUEST for 0 or more than 255,
EXHAUSTED with the remaining count when it is less than n. REFILL sets remaining, next standing as it was. -/
def Obligations.NextIssuesAndRefillSets : Prop :=
  ∀ (s : State) (p : Port) (r : Request) (rest : List Request) (rec : Record) (b : Sequence),
    s.passes p r rec → rec.body = .sequence b →
    let n := (r.word 1).toNat
    let ends := fun (b1 : Sequence) (data : List Word) => Host.Outcome.next (φ := Fault) (ρ := Refusal)
      (((s.turnTaken p rest).placeAll [(p, ⟨r.tag, .done, data⟩)]).updateRecord r.target rec
        { rec with body := .sequence b1 })
    (s.atTurn p .next r rest →
      (n = 0 ∨ 255 < n → exec (.next p) s = .next (s.answered p rest ⟨r.tag, .badRequest, []⟩)) ∧
      (1 ≤ n → n ≤ 255 → b.remaining < n →
        exec (.next p) s = .next (s.answered p rest ⟨r.tag, .exhausted, [natWord b.remaining]⟩)) ∧
      (1 ≤ n → n ≤ 255 → n ≤ b.remaining → ∃ next : Word,
        (next.toNat : Int) = ((b.next.toNat : Int) + n * b.step) % 65536 ∧
        exec (.next p) s = ends { b with next := next, remaining := b.remaining - n }
          [b.next, natWord (b.remaining - n)])) ∧
    (s.atTurn p .refill r rest → exec (.refill p) s = ends { b with remaining := n } [b.next])

/-! ### Notices and lines -/

/-- NEXT_NOTICE: NONE on an empty set; else the entry with the lowest slot leaves the set and is answered as a handle word
and a reasons word, and no record changes. READ_LINES: eight words, line 0 first, each with the line's count and whether the
part drives it low; no other change. -/
def Obligations.NoticesAndLineCountsAreRead : Prop :=
  (∀ (s : State) (p : Port) (r : Request) (rest : List Request), s.atTurn p .nextNotice r rest → s.changedSetsOrdered →
     (s.changed[p.val] = [] → exec (.nextNotice p) s = .next (s.answered p rest ⟨r.tag, .none, []⟩)) ∧
     ∀ e ∈ s.changed[p.val], (∀ d ∈ s.changed[p.val], e.slot ≤ d.slot) →
       exec (.nextNotice p) s = .next { s.answered p rest ⟨r.tag, .done,
           [handleWord e.slot e.gen,
             (if e.reasons.body then 1#16 else 0) ||| (if e.reasons.alertOn then 2#16 else 0) |||
             (if e.reasons.alertOff then 4#16 else 0) ||| (if e.reasons.ended then 8#16 else 0)]⟩ with
         changed := s.changed.set p.val (s.changed[p.val].filter fun d => d.slot != e.slot) }) ∧
  (∀ (s : State) (p : Port) (r : Request) (rest : List Request), s.atTurn p .readLines r rest →
     ∃ data : List Word, data.length = 8 ∧
       exec (.readLines p) s = .next (s.answered p rest ⟨r.tag, .done, data⟩) ∧
       ∀ (x : LineNo) (w : Word), data[x.val]? = some w → s.lineCounts[x.val] ≤ 256 →
         (w.toNat % 512 = s.lineCounts[x.val] ∧ w.getLsbD 15 = s.lineDrivenLow x ∧
           (s.lineDrivenLow x = true ↔ 0 < s.lineCounts[x.val])))

/-! ### Port reset and reclaim -/

/-- A port reset by PRSTn, PORT_RESET or DETACH (R154, R156, R157, R159): ignored while DRAINING; on an OFFLINE port the
port's own state is cleared and RECLAIM-DONE is set; an ONLINE or FENCED port enters DRAINING. The data pins keep their word
(notes/assumptions/9.md). That the whole entry is one event is the model's choice (notes/assumptions/25.md). -/
def Obligations.PortResetByMode : Prop :=
  ∀ (s : State) (p : Port), s.resetAsserted = false →
    let cleared := fun mode : PortMode => ({ PortState.reset with mode := mode, dataOut := (s.port p).dataOut } : PortState)
    ((s.port p).mode = .draining → exec (.prstAssertion p) s = .next s) ∧
    ((s.port p).mode = .offline → exec (.prstAssertion p) s = .next { s with
      ports := s.ports.set p.val (cleared .offline), mattnReasons := s.mattnReasons ||| (0x04#8 <<< p.val) }) ∧
    ((s.port p).mode = .online ∨ (s.port p).mode = .fenced → exec (.prstAssertion p) s = .next (s.enterDraining p)) ∧
    (∀ (r : Request) (rest : List Request), s.atTurn p .detach r rest →
      exec (.detach p) s = .next ((s.turnTaken p rest).enterDraining p)) ∧
    (∀ b : Byte, s.awaits .portReset → s.executes → b.toNat = p.val →
      ((s.port p).mode = .draining → exec (.portReset b) s = .next (s.linkAnswer .busy [])) ∧
      ((s.port p).mode = .offline → exec (.portReset b) s = .next (({ s with
        ports := s.ports.set p.val (cleared .offline)
        mattnReasons := s.mattnReasons ||| (0x04#8 <<< p.val) } : State).linkAnswer .ok [])) ∧
      ((s.port p).mode = .online ∨ (s.port p).mode = .fenced →
        exec (.portReset b) s = .next ((s.enterDraining p).linkAnswer .ok [])))

/-- The entry of an ONLINE or FENCED port into DRAINING (R158, R82, R20, R116): the port's own state is cleared, its changed
set emptied and its cursor 0; on every record its watch mode is OFF, a pending held RETIRE of it is discarded, and its
holdings, claims and ownership stay. On each record where it has a waiter its waiters end without a response, and the cascade
runs; the waiters of other ports that it grants are answered DONE, slot by slot, and the change report of the grants reaches
the other ports' changed sets. The entries and reservations so freed join the free counts, given R45's law of reservations,
and the line counts go on counting the records that contribute. That the entry is one event, in the order of R158's table and
the slots ascending, is the model's choice (notes/assumptions/25.md), and that the entries move by the difference of what the
records use its reading (22.md). The data pins keep their word (9.md). -/
def Obligations.EntryIntoDraining : Prop :=
  ∀ (s : State) (p : Port), (s.port p).mode = .online ∨ (s.port p).mode = .fenced →
    let t := s.enterDraining p
    let grants := (List.finRange 256).flatMap fun i => (((s.slot i).record.map fun rec => (rec.body.leftBy p).2).getD [])
    (t.port p = { PortState.reset with mode := .draining, dataOut := (s.port p).dataOut } ∧
     t.changed[p.val] = [] ∧ t.cursors[p.val] = 0) ∧
    (∀ q : Port, q ≠ p → t.cursors[q.val] = s.cursors[q.val] ∧
      t.port q = if (s.port q).mode = .draining then s.port q else
        { s.port q with responses := (s.port q).responses ++ responsesFor q grants }) ∧
    (∀ i : Slot, (t.slot i).gen = (s.slot i).gen ∧ ((s.slot i).record = none → (t.slot i).record = none) ∧
      ∀ rec, (s.slot i).record = some rec → ∃ rec1, (t.slot i).record = some rec1 ∧
        rec1.key = rec.key ∧ rec1.state = rec.state ∧ rec1.owner = rec.owner ∧ rec1.line = rec.line ∧
        rec1.watch = rec.watch.set p.val .off ∧
        (rec1.held = match rec.held with
          | .pending q g => if q = p then .discarded else .pending q g
          | .absent => .absent
          | .discarded => .discarded) ∧
        rec1.body = (rec.body.leftBy p).1 ∧
        (∀ b, rec.body = .pool b → (∃ w ∈ b.waiters, w.port = p) →
          rec1.body = .pool (b.endWaiters (fun w => w.port == p)).cascade.1) ∧
        ((∀ w ∈ rec.body.waiters, w.port ≠ p) → rec1.body = rec.body) ∧
        (∀ w ∈ rec1.body.waiters, w.port ≠ p) ∧
        (∀ b, rec.body = .pool b → ∃ b1, rec1.body = .pool b1 ∧ b1.unitsOf p = b.unitsOf p ∧ b1.lists p = b.lists p)) ∧
    (t.freeWaiters + (t.slots.toList.map fun x => x.waiters.length).sum =
      s.freeWaiters + (s.slots.toList.map fun x => x.waiters.length).sum) ∧
    (s.everyRecord (fun rec => rec.body.reservationLaw) →
      t.freeHoldings + (t.slots.toList.map SlotState.entriesUsed).sum =
        s.freeHoldings + (s.slots.toList.map SlotState.entriesUsed).sum) ∧
    ((∀ x : LineNo, s.lineCounts[x.val] = s.slots.toList.countP (SlotState.contributesTo x)) →
      ∀ x : LineNo, t.lineCounts[x.val] = t.slots.toList.countP (SlotState.contributesTo x)) ∧
    (s.changedSetsOrdered → ∀ (q : Port) (i : Slot), q ≠ p →
      ((s.slot i).record = none → entryOf i t.changed[q.val] = entryOf i s.changed[q.val]) ∧
      ∀ rec, (s.slot i).record = some rec →
        let body := (rec.body.leftBy p).1
        let kept := Reasons.keptBy ⟨true, !rec.body.inAlert && body.inAlert, rec.body.inAlert && !body.inAlert, false⟩
          rec.watch[q.val]
        entryOf i t.changed[q.val] =
          if body.reported = rec.body.reported ∨ kept = Reasons.empty then entryOf i s.changed[q.val]
          else some ⟨i, (s.slot i).gen, (((entryOf i s.changed[q.val]).map (·.reasons)).getD Reasons.empty).union kept⟩) ∧
    t.rotation = s.rotation ∧ t.servicePos = s.servicePos ∧ t.condition = s.condition ∧ t.clear = s.clear ∧
    t.frame = s.frame ∧ t.mattnReasons = s.mattnReasons ∧ t.waitUnit = s.waitUnit ∧ t.unitPos = s.unitPos ∧
    t.expiryEvents = s.expiryEvents ∧ t.failedAreas = s.failedAreas ∧ t.mattnMask = s.mattnMask ∧
    t.purgeSlot = s.purgeSlot ∧ t.resetAsserted = s.resetAsserted ∧ t.chipSelect = s.chipSelect ∧ t.sdo = s.sdo ∧
    t.pending = s.pending

/-- WALK_STEP at the Walker's turn (R160, R161, R163): the first draining port with an unfinished walk, at or after the
service position, has its step at the slot its cursor names; the record there is changed as R161 says and the event ends as
any other; the cursor advances, the service position is the port after, and the step at slot 255 takes the port to OFFLINE
with RECLAIM-DONE. -/
def Obligations.WalkStepActsOnOneSlot : Prop :=
  ∀ (s : State) (p : Port) (i : Slot), s.turn = some .walker →
    (s.port p).mode = .draining → s.cursors[p.val] = i.val →
    (∀ q : Port, (q.val + 4 - s.servicePos.val) % 4 < (p.val + 4 - s.servicePos.val) % 4 →
      ¬((s.port q).mode = .draining ∧ s.cursors[q.val] < 256)) →
    let s1 : State := { s with rotation := .port 0 }
    let ends := fun t : State => exec .walkStep s = .next
      (let t := { t with cursors := t.cursors.set p.val (i.val + 1), servicePos := p + 1 }
       if i.val = 255 then
         { t with
           ports := t.ports.set p.val { t.port p with mode := .offline }
           mattnReasons := t.mattnReasons ||| (0x04#8 <<< p.val) }
       else t)
    ((s.slot i).record = none → ends s1) ∧
    ∀ rec, (s.slot i).record = some rec →
      let owner := if rec.owner = some p then none else rec.owner
      (∀ b, rec.body = .pool b → b.lists p = true →
        let c := (b.giveBack p (b.unitsOf p)).cascade
        ends (s1.finishEvent i rec { rec with body := .pool c.1, owner := owner } c.2)) ∧
      (∀ b, rec.body = .pool b → b.lists p = false → ends (s1.updateRecord i rec { rec with owner := owner })) ∧
      (∀ b, rec.body = .flags b →
        ∃ b1 : FlagSet, b1.alertMask = b.alertMask ∧
          (∀ n : FlagNo, (b.claimants[n.val] = some p → b1.claimants[n.val] = none ∧ b1.flags.getLsbD n.val = false) ∧
            (b.claimants[n.val] ≠ some p → b1.claimants[n.val] = b.claimants[n.val] ∧
              b1.flags.getLsbD n.val = b.flags.getLsbD n.val)) ∧
          ends (s1.finishEvent i rec { rec with body := .flags b1, owner := owner } [])) ∧
      (∀ c, rec.body = .counter c → ends (s1.updateRecord i rec { rec with owner := owner })) ∧
      (∀ b, rec.body = .sequence b → ends (s1.updateRecord i rec { rec with owner := owner }))

/-! ### The maintenance link -/

/-- FRAME_START opens a frame in the command phase, but none while RESET is asserted or when chip select was asserted
already; FRAME_END ends it, whatever its phase, and leaves every effect of a taken command. The bytes of a frame: the byte of
a command with an argument begins the argument phase, that of a command without one takes the command, and a byte that names
none is answered RANGE in every condition; in the response phase the pending byte is clocked out until the status is known,
then the status, the data bytes and the idle byte, whatever byte comes in. RANGE for an unknown byte in every condition is
the model's reading (notes/assumptions/27.md). -/
def Obligations.FramesFollowTheirPhases : Prop :=
  (∀ s : State,
     (s.chipSelect = false → s.resetAsserted = false →
       exec .frameStart s = .next { s with chipSelect := true, frame := .command, sdo := none }) ∧
     (s.chipSelect = false → s.resetAsserted = true → exec .frameStart s = .next { s with chipSelect := true }) ∧
     (s.chipSelect = true → exec .frameStart s = .next s) ∧
     exec .frameEnd s = .next { s with chipSelect := false, frame := .idle, sdo := none }) ∧
  (∀ (s : State) (b : Byte), s.resetAsserted = false →
     (s.frame = .command →
       (LinkCommand.ofByte b = none → s.purgeSlot = none →
         exec (.unknownCommand b) s = .next (s.linkAnswer .range []) ∧
         exec (.commandByte b) s = .next (s.linkAnswer .range [])) ∧
       ∀ c : LinkCommand, LinkCommand.ofByte b = some c →
         (c.argCount = 1 → exec (.commandByte b) s = .next { s with frame := .argument c, sdo := some 0xFF }) ∧
         (c.argCount = 0 → exec (.commandByte b) s = exec (LinkCommand.taken 0 c) s)) ∧
     (∀ (data : List Byte) (pos : Nat),
       (s.frame = .response none data pos → exec (.responsePhaseByte b) s = .next { s with sdo := some 0x5A }) ∧
       ∀ st : LinkStatus, s.frame = .response (some st) data pos →
         (pos ≤ data.length → exec (.responsePhaseByte b) s = .next { s with
           frame := .response (some st) data (pos + 1), sdo := (st.byte :: data)[pos]? }) ∧
         (data.length < pos → exec (.responsePhaseByte b) s = .next { s with sdo := some 0xFF })))

/-- The first three checks of R174 on a known command: NOT-READY in CHECKING but for STATUS, FAULT in FAILED but for STATUS
and SET-MATTN-MASK, BUSY during a CLEAR-TABLE but for STATUS and COUNTS; the answer carries no data and nothing else changes.
A PURGE is so refused whether its event would be at once or deferred. It is stated where no deferred PURGE is owed, a part of
the model's own (notes/assumptions/17.md). -/
def Obligations.LinkChecksBeforeACommand : Prop :=
  ∀ (s : State) (c : LinkCommand) (b : Byte) (i : Instr), s.awaits c →
    i = LinkCommand.taken b c ∨ (c = .purge ∧ i = .purge (.deferred b)) →
    (s.condition = .checking → c ≠ .status → exec i s = .next (s.linkAnswer .notReady [])) ∧
    (s.condition = .failed → c ≠ .status → c ≠ .setMattnMask → exec i s = .next (s.linkAnswer .fault [])) ∧
    (s.condition = .ready → s.clear ≠ none → c ≠ .status → c ≠ .counts → exec i s = .next (s.linkAnswer .busy []))

/-- STATUS, COUNTS and READ_RECORD answer OK with their bytes, spelled out as 10.7 lays them out, and change nothing but the
frame; STATUS in every condition. COUNTS: free holding entries, free waiter entries, LIVE and CLOSING records and the unit
code. READ_RECORD: the length byte, then state and generation alone for an EMPTY slot, else the header and the body of the
kind. Bits that 10.7 gives no field are 0 by the model's choice (notes/assumptions/29.md). -/
def Obligations.ReadingCommandsChangeNothing : Prop :=
  let two := fun n : Nat => [BitVec.ofNat 8 (n / 256), BitVec.ofNat 8 n]
  let signed := fun v : Int => [BitVec.ofInt 8 (v / 256), BitVec.ofInt 8 v]
  let portByte := fun o : Option Port => match o with | some q => BitVec.ofNat 8 q.val | none => 0xFF#8
  let mode := fun m : WatchMode => match m with | .off => 0 | .change => 1 | .alert => 2 | .ended => 3
  let state := fun q : PortState => match q.mode with | .offline => 0 | .online => 1 | .fenced => 2 | .draining => 3
  let records := fun (s : State) (st : RecordState) =>
    (List.finRange 256).countP fun i => (s.slot i).record.any (fun rec => rec.state == st)
  ∀ (s : State) (b : Byte),
    (s.awaits .status → exec .status s = .next (s.linkAnswer .ok
      [(if s.mattnAsserted then 0x40#8 else 0) ||| (if s.clear.isSome then 0x20#8 else 0) |||
          (if s.failedAreas.waiter then 0x10#8 else 0) ||| (if s.failedAreas.holding then 0x08#8 else 0) |||
          (if s.failedAreas.slot then 0x04#8 else 0) |||
          (match s.condition with | .checking => 0#8 | .ready => 1#8 | .failed => 2#8),
        BitVec.ofNat 8 (state (s.port 3) * 64 + state (s.port 2) * 16 + state (s.port 1) * 4 + state (s.port 0)),
        s.mattnReasons, s.mattnMask])) ∧
    (s.awaits .counts → s.condition = .ready → exec .counts s = .next (s.linkAnswer .ok
      (two s.freeHoldings ++ [BitVec.ofNat 8 s.freeWaiters] ++ two (records s .live) ++ two (records s .closing) ++
        [match s.waitUnit with | .us100 => 0 | .ms1 => 1 | .ms10 => 2]))) ∧
    (s.awaits .readRecord → s.executes →
      let x := s.slot (Fin.ofNat 256 b.toNat)
      let answers := fun data : List Byte => exec (.readRecord b) s = .next (s.linkAnswer .ok data)
      (x.record = none → answers [2, 0, x.gen]) ∧
      ∀ rec, x.record = some rec →
        let image := fun (length : Nat) (kind : Byte) (body : List Byte) => answers
          ([BitVec.ofNat 8 length, if rec.state = .live then 1 else 2, x.gen] ++ two rec.key.toNat ++
           [kind, portByte rec.owner,
            (match rec.line with
              | none => 0xFF
              | some a => BitVec.ofNat 8 (a.line.val + if a.sense = .inverted then 16 else 0)),
            BitVec.ofNat 8 (mode rec.watch[0] + 4 * mode rec.watch[1] + 16 * mode rec.watch[2] + 64 * mode rec.watch[3])] ++
           (match rec.held with
              | .absent => [0, 0]
              | .pending q g => [1, BitVec.ofNat 8 (q.val * 16 + g.toNat)]
              | .discarded => [2, 0]) ++ body)
        (∀ a, rec.body = .pool a → image (18 + 3 * a.holdings.length + 6 * a.waiters.length) 1
          (two a.stock ++ two a.level ++ two a.lowMark ++
           [BitVec.ofNat 8 a.holdings.length] ++ a.holdings.flatMap (fun h => portByte (some h.port) :: two h.units) ++
           [BitVec.ofNat 8 a.waiters.length] ++ a.waiters.flatMap (fun w =>
             [BitVec.ofNat 8 (w.port.val * 16 + w.tag.toNat)] ++ two w.units ++
             (match w.timeout with | some left => two left | none => [0xFF, 0xFF]) ++ [if w.reserved then 1 else 0]))) ∧
        (∀ a, rec.body = .counter a → image 21 2
          (signed a.value ++ signed a.floor ++ signed a.ceiling ++ signed a.lowMark ++ signed a.highMark ++
           [BitVec.ofNat 8 ((if a.policy = .clip then 1 else 0) + if a.limitFlag then 2 else 0)])) ∧
        (∀ a, rec.body = .flags a → image 30 3
          (two a.flags.toNat ++ a.claimants.toList.map portByte ++ two a.alertMask.toNat)) ∧
        (∀ a, rec.body = .sequence a → image 17 4
          (two a.next.toNat ++ [BitVec.ofInt 8 a.step] ++ two a.remaining ++ two a.lowMark)))

/-- PURGE: its event at once on an EMPTY slot answers RANGE, on another it empties the slot with a held RETIRE answered
PURGED, and answers OK; a deferred one answers nothing yet, and its event, whole as EmptyingASlot says and no other change,
comes with the slot as it then stands, at the latest before a later command is taken, its status going to its own frame if
that is still open. The moments of a PURGE are the model's choice (notes/assumptions/17.md). CLEAR_TABLE begins a clear at
slot 0 with its status to come; each CLEAR_TABLE_SLOT empties its slot as a PURGE would, or passes an EMPTY one, and after
slot 255 the clear ends with the status OK for a frame that still waits for it. That a CLEAR_TABLE_SLOT with no clear in
progress changes nothing is the model's choice (notes/assumptions/1.md). -/
def Obligations.PurgeAndClearTableEmptySlots : Prop :=
  (∀ (s : State) (b : Byte),
     let i : Slot := Fin.ofNat 256 b.toNat
     (s.awaits .purge → s.executes →
       ((s.slot i).record = none → exec (.purge (.atOnce b)) s = .next (s.linkAnswer .range [])) ∧
       (∀ rec, (s.slot i).record = some rec →
         exec (.purge (.atOnce b)) s = .next ((s.emptySlot i rec rec .purged).linkAnswer .ok [])) ∧
       exec (.purge (.deferred b)) s =
         .next { s with frame := .response none [] 0, sdo := some 0xFF, purgeSlot := some i }) ∧
     (∀ j : Slot, s.resetAsserted = false → s.purgeSlot = some j →
       let status := fun st : LinkStatus => match s.frame with
         | .response none data pos => Frame.response (some st) data pos
         | f => f
       let t : State := match (s.slot j).record with
         | none => { s with purgeSlot := none, frame := status .range }
         | some rec => { s.emptySlot j rec rec .purged with purgeSlot := none, frame := status .ok }
       exec (.purge .work) s = .next t ∧
       (s.frame = .command → LinkCommand.ofByte b = none → exec (.unknownCommand b) s = exec (.unknownCommand b) t) ∧
       (s.frame = .argument .purge → exec (.purge (.deferred b)) s = exec (.purge (.deferred b)) t) ∧
       ∀ c : LinkCommand, s.frame = (if c.argCount = 0 then .command else .argument c) →
         exec (LinkCommand.taken b c) s = exec (LinkCommand.taken b c) t)) ∧
  (∀ s : State, s.resetAsserted = false →
     (s.awaits .clearTable → s.executes →
       exec .clearTable s = .next { s with clear := some 0, frame := .response none [] 0, sdo := some 0xFF }) ∧
     (s.clear = none → exec .clearTableSlot s = .next s) ∧
     (∀ i : Slot, s.clear = some i → ∃ t : State,
       ((s.slot i).record = none ∧ t = s ∨ ∃ rec, (s.slot i).record = some rec ∧ t = s.emptySlot i rec rec .purged) ∧
       (i.val < 255 → exec .clearTableSlot s = .next { t with clear := some (i + 1) }) ∧
       (i.val = 255 →
         (∀ (data : List Byte) (pos : Nat), s.frame = .response none data pos →
           exec .clearTableSlot s = .next { t with clear := none, frame := .response (some .ok) data pos }) ∧
         ((∀ (data : List Byte) (pos : Nat), s.frame ≠ .response none data pos) →
           exec .clearTableSlot s = .next { t with clear := none }))))

/-- FENCE and UNFENCE move a port between ONLINE and FENCED and change nothing else of it; BUSY in any other state, RANGE for
a byte of 4 or more. SET_WAIT_UNIT: RANGE above 2, BUSY while any waiter stands, else the unit is the one named and a new
unit starts. SET_MATTN_MASK replaces the mask, in FAILED too; CLEAR_MATTN clears the reasons its mask selects. -/
def Obligations.PortClockAndMattnCommands : Prop :=
  (∀ (s : State) (b : Byte), s.executes →
     let mode := fun (p : Port) (m : PortMode) => { s with ports := s.ports.set p.val { s.port p with mode := m } }
     (s.awaits .fence →
       (4 ≤ b.toNat → exec (.fence b) s = .next (s.linkAnswer .range [])) ∧
       ∀ p : Port, b.toNat = p.val →
         ((s.port p).mode = .online → exec (.fence b) s = .next ((mode p .fenced).linkAnswer .ok [])) ∧
         ((s.port p).mode ≠ .online → exec (.fence b) s = .next (s.linkAnswer .busy []))) ∧
     (s.awaits .unfence →
       (4 ≤ b.toNat → exec (.unfence b) s = .next (s.linkAnswer .range [])) ∧
       ∀ p : Port, b.toNat = p.val →
         ((s.port p).mode = .fenced → exec (.unfence b) s = .next ((mode p .online).linkAnswer .ok [])) ∧
         ((s.port p).mode ≠ .fenced → exec (.unfence b) s = .next (s.linkAnswer .busy []))) ∧
     (s.awaits .portReset → 4 ≤ b.toNat → exec (.portReset b) s = .next (s.linkAnswer .range []))) ∧
  (∀ (s : State) (b : Byte),
     (s.awaits .setWaitUnit → s.executes →
       (3 ≤ b.toNat → exec (.setWaitUnit b) s = .next (s.linkAnswer .range [])) ∧
       (b.toNat ≤ 2 → (∃ i : Slot, (s.slot i).waiters ≠ []) → exec (.setWaitUnit b) s = .next (s.linkAnswer .busy [])) ∧
       ((∀ i : Slot, (s.slot i).waiters = []) → ∀ u : WaitUnit, b.toNat = (match u with | .us100 => 0 | .ms1 => 1 | .ms10 => 2) →
         exec (.setWaitUnit b) s = .next (({ s with waitUnit := u, unitPos := 0 } : State).linkAnswer .ok []))) ∧
     (s.awaits .setMattnMask → s.executes ∨ s.condition = .failed ∧ s.clear = none →
       exec (.setMattnMask b) s = .next (({ s with mattnMask := b } : State).linkAnswer .ok [])) ∧
     (s.awaits .clearMattn → s.executes →
       exec (.clearMattn b) s = .next (({ s with mattnReasons := s.mattnReasons &&& ~~~b } : State).linkAnswer .ok [])))

/-- The attention outputs: ATTNn while a response is queued or a changed-set entry stands, each with its enable; MATTN while
a reason is set whose bit is enabled; ALx while its count is above 0. -/
def Obligations.AttentionFollowsItsConditions : Prop :=
  ∀ s : State,
    (∀ p : Port, s.attnAsserted p = true ↔
      ((s.port p).responses ≠ [] ∧ (s.port p).responseEnable = true) ∨
      (s.changed[p.val] ≠ [] ∧ (s.port p).noticeEnable = true)) ∧
    (s.mattnAsserted = true ↔ ∃ n : Fin 8, s.mattnReasons.getLsbD n.val = true ∧ s.mattnMask.getLsbD n.val = true) ∧
    (∀ x : LineNo, s.lineDrivenLow x = true ↔ s.lineCounts[x.val] ≠ 0)

/-! ### Formats -/

/-- The words and bytes a board or the controller writes are read back as they were written: a header word's request and tag,
a handle word's slot and generation, and a command byte; the codes of requests, results, link commands and link statuses and
the argument bytes of the commands are those of 10.2, 10.3 and 10.7, no other byte names a command, and a response header has
its fields in their places. A parameter word of a request is the staged word in its place, and numbers are given as words. What a read at each offset of the port window returns (10.1): the staged word count, or 7
with the overflow mark set; the next response word or the empty header word; the status word, port code and refusal byte
(10.6); the two enables, the clear indications read as 0; and 0 elsewhere. The queue number of a status word gives back the
counts and whether a response is available, for every port state R186 speaks of; the port codes tell the modes apart; and the
worked words are 1103h, 09E4h and A200h. That such a read is no command but a function of the state is the model's choice
(notes/assumptions/10.md). -/
def Obligations.WordsReadBackAsWritten : Prop :=
  ((∀ (c : ReqCode) (tag : Tag), headerCode (headerWord c tag) = some c ∧ headerTag (headerWord c tag) = tag ∧
     headerLowZero (headerWord c tag) = true ∧ (headerWord c tag).toNat = c.code * 1024 + tag.toNat * 64) ∧
   (∀ (i : Slot) (g : Gen), handleSlot (handleWord i g) = i ∧ handleGen (handleWord i g) = g ∧
     (handleWord i g).toNat = i.val * 256 + g.toNat) ∧
   (∀ c : LinkCommand, LinkCommand.ofByte c.byte = some c) ∧
   handleWord 17 3 = 0x1103#16 ∧
   (∀ n : Nat, natWord n = BitVec.ofNat 16 n) ∧ (∀ v : Int, intWord v = BitVec.ofInt 16 v) ∧
   ∀ (r : Request) (n : Nat) (w : Word), r.words[n]? = some w → r.word n = w) ∧
  ([ReqCode.attach, .detach, .cancel, .nextNotice, .readLines, .limits, .create, .retire, .adopt, .find, .scan, .read, .watch,
     .assignLine, .acquire, .acquireWait, .release, .restock, .readHolders, .add, .set, .compareSet, .clearLimit, .setFlags,
     .clearFlags, .toggleFlags, .claim, .unclaim, .next, .refill].map ReqCode.code =
     [0x01, 0x02, 0x03, 0x04, 0x05, 0x07, 0x08, 0x09, 0x0A, 0x0B, 0x0C, 0x0D, 0x0E, 0x0F, 0x10, 0x11, 0x12, 0x13, 0x14, 0x18,
      0x19, 0x1A, 0x1B, 0x20, 0x21, 0x22, 0x23, 0x24, 0x28, 0x29] ∧
   [ResultCode.done, .short, .timeout, .cancelled, .closed, .stale, .wrongKind, .notOwner, .notHeld, .duplicate, .tableFull,
     .noHoldingEntry, .noWaiter, .closing, .limit, .exhausted, .noFreeFlag, .notFound, .badRequest, .mismatch, .purged,
     .owned, .none].map ResultCode.code = List.range 23 ∧
   [LinkCommand.status, .counts, .readRecord, .purge, .clearTable, .fence, .unfence, .portReset, .setWaitUnit, .setMattnMask,
     .clearMattn].map LinkCommand.byte = [0x01, 0x02, 0x03, 0x10, 0x11, 0x20, 0x21, 0x22, 0x30, 0x31, 0x32] ∧
   [LinkCommand.status, .counts, .readRecord, .purge, .clearTable, .fence, .unfence, .portReset, .setWaitUnit, .setMattnMask,
     .clearMattn].map LinkCommand.argCount = [0, 0, 1, 1, 0, 1, 1, 1, 1, 1, 1] ∧
   (∀ b : Byte, LinkCommand.ofByte b = none ↔
     b.toNat ∉ [0x01, 0x02, 0x03, 0x10, 0x11, 0x20, 0x21, 0x22, 0x30, 0x31, 0x32]) ∧
   [LinkStatus.ok, .busy, .range, .notReady, .fault].map LinkStatus.byte = [0x00, 0x01, 0x02, 0x03, 0x04] ∧
   ∀ (valid : Bool) (tag : Tag) (result : ResultCode) (n : Nat), n ≤ 9 →
     (responseHeader valid tag result n).toNat = (if valid then 32768 else 0) + tag.toNat * 2048 + result.code * 32 + n) ∧
  (∀ q : PortState,
     q.windowWord 0 = (if q.overflow then 7 else BitVec.ofNat 16 q.staging.length) ∧
     q.windowWord 1 = 0 ∧
     q.windowWord 2 = (match q.responses with
       | [] => 0x02C0#16
       | r :: _ => (responseHeader true r.tag r.result r.data.length :: r.data).getD q.readPos 0) ∧
     q.windowWord 3 = BitVec.ofNat 16 (q.portCode * 256 + (if q.refusalFlag then 128 else 0) +
       (match q.refusalReason with
         | none => 0
         | some .notReady => 1
         | some .offline => 2
         | some .fenced => 3
         | some .draining => 4
         | some .malformed => 5
         | some .tagInUse => 6
         | some .full => 7
         | some .fault => 0) * 16 + q.refusedTag.toNat) ∧
     q.windowWord 4 = BitVec.ofNat 16 ((if q.responseEnable then 1 else 0) + if q.noticeEnable then 2 else 0) ∧
     q.windowWord 5 = 0 ∧ q.windowWord 6 = 0 ∧ q.windowWord 7 = 0 ∧
     q.queueNumber = (if q.responses = [] then 9 * q.outstanding.length + q.intake.length
       else 9 * q.intake.length + q.outstanding.length)) ∧
  (∀ c : Nat, decodeQueueNumber c =
     if c % 9 ≤ c / 9 then (c / 9, c % 9, false) else (c % 9, c / 9, true)) ∧
  ((∀ q : PortState, q.outstanding.length ≤ 8 → q.intake.length ≤ q.outstanding.length →
     (q.responses ≠ [] → q.intake.length < q.outstanding.length) →
     decodeQueueNumber q.queueNumber = (q.outstanding.length, q.intake.length, !q.responses.isEmpty) ∧
     q.queueNumber ≤ 80 ∧
     (q.mode = .online → q.portCode = q.queueNumber) ∧ (q.mode = .fenced → q.portCode = 81 + q.queueNumber)) ∧
   (∀ q : PortState, q.mode = .draining → q.portCode = 163) ∧
   (∀ q : PortState, q.mode = .offline → q.portCode = if q.refusalReason = some .fault then 164 else 162) ∧
   PortState.reset.statusWord = 0xA200#16 ∧
   ({ PortState.reset with
       mode := .online, outstanding := [4], refusalFlag := true, refusalReason := some .tagInUse, refusedTag := 4 } :
     PortState).statusWord = 0x09E4#16)

/-! ### Laws that every step keeps -/

/-- Every record's body stays legal: units conserved (R40), holding lists (R41), waiters (R63), the COUNTER range (R87),
claimed flags set (R99), the SEQUENCE step (R109). -/
def Obligations.BodiesStayLegal : Prop :=
  ∀ s t : State, s.bodiesLegal → step s = .next t → t.bodiesLegal

/-- LIVE and CLOSING stay as R9, R17 and R63 say. No two records ever have the same key (R5). -/
def Obligations.LifecyclesAndKeysKept : Prop :=
  (∀ s t : State, s.lifecycles → step s = .next t → t.lifecycles) ∧
  (∀ s t : State, s.keysDistinct → step s = .next t → t.keysDistinct)

/-- After every event a POOL's queue is empty or its head's units exceed the level (R65). -/
def Obligations.HeadsStayBlocked : Prop :=
  ∀ s t : State, s.headsBlocked → step s = .next t → t.headsBlocked

/-- The holding entries always number 384 together, the waiter entries 24, and reservations obey R45 (R43, R62, R63). A record
uses the entries of its holding list and one for each waiter that carries a reservation, and one waiter entry for each waiter;
a slot without a POOL uses none. -/
def Obligations.EntriesStayAccounted : Prop :=
  (∀ x : SlotState, x.entriesUsed = (x.record.map fun rec => rec.body.entriesUsed).getD 0 ∧
     x.waiters = (x.record.map fun rec => rec.body.waiters).getD []) ∧
  (∀ body : Body, match body with
     | .pool b => body.entriesUsed = b.holdings.length + (b.waiters.filter (·.reserved)).length ∧ body.waiters = b.waiters
     | .counter _ | .flags _ | .sequence _ => body.entriesUsed = 0 ∧ body.waiters = []) ∧
  ∀ s t : State, s.entriesAccounted → step s = .next t → t.entriesAccounted

/-- Each line's count equals the number of records assigned to it that contribute (R126). A record contributes to the line it
is assigned to, under NORMAL while it is in alert, under INVERTED while it is not, and without a line never (R125). -/
def Obligations.LinesStayCounted : Prop :=
  (∀ (x : LineNo) (y : SlotState), y.contributesTo x = true ↔
     ∃ (rec : Record) (a : LineAssignment), y.record = some rec ∧ rec.line = some a ∧ a.line = x ∧
       (a.sense = .normal ∧ rec.inAlert = true ∨ a.sense = .inverted ∧ rec.inAlert = false)) ∧
  ∀ s t : State, s.linesCounted → step s = .next t → t.linesCounted

/-- Each changed set keeps one entry for a slot, in slot order, never without a reason (R119). -/
def Obligations.ChangedSetsStayOrdered : Prop :=
  ∀ s t : State, s.changedSetsOrdered → step s = .next t → t.changedSetsOrdered

/-- The ports keep the bounds of staging, read position and response length (R136, R144, 10.3). -/
def Obligations.PortsStayBounded : Prop :=
  ∀ s t : State, s.portsBounded → step s = .next t → t.portsBounded

/-- A DRAINING port has nothing of its board's requests, its walk leaves nothing behind it, and an OFFLINE port holds, claims
and owns nothing (R135, R158, R163). -/
def Obligations.WithdrawnPortsHoldNothing : Prop :=
  ∀ s t : State, s.withdrawn → step s = .next t → t.withdrawn

/-- Every outstanding tag is in one of the four places of R142, once, and a port never has more than eight. -/
def Obligations.RequestsStayAccounted : Prop :=
  ∀ s t : State, s.requestsAccounted → step s = .next t → t.requestsAccounted

/-- Before READY and in FAILED no record stands and every port is OFFLINE (R168, R171, R186). While RESET is held asserted
every block keeps its reset value, whatever is commanded (R168). That every command is ignored in reset is the model's
reading (notes/assumptions/8.md). -/
def Obligations.ConditionAndResetHoldTheBlocks : Prop :=
  (∀ s t : State, s.idleUnlessReady → step s = .next t → t.idleUnlessReady) ∧
  (∀ s t : State, s.heldInReset → step s = .next t → t.heldInReset)

/-- Every law of this section holds of the state after reset. -/
def Obligations.LawsHoldAfterReset : Prop :=
  State.reset.bodiesLegal ∧ State.reset.lifecycles ∧ State.reset.keysDistinct ∧ State.reset.headsBlocked ∧
  State.reset.entriesAccounted ∧ State.reset.linesCounted ∧ State.reset.changedSetsOrdered ∧ State.reset.portsBounded ∧
  State.reset.withdrawn ∧ State.reset.requestsAccounted ∧ State.reset.idleUnlessReady ∧ State.reset.heldInReset
end

