-- ==== Sys2Proof/Laws/Formats.lean ====
section
/-! SUPPORT. The words a board writes and the words and bytes the part gives out (10.2 to 10.7) as numbers: what a field in its
place is worth, the bits of a set of flags, and the two bytes of a word. -/

namespace Sys2Proof.Machine

/-- A word made of two fields is worth the upper field, moved up by the width of the lower one, and the lower field. -/
theorem toNat_fields {n m : Nat} (x : BitVec n) (y : BitVec m) : (x ++ y).toNat = x.toNat * 2 ^ m + y.toNat := by
  rw [BitVec.toNat_append, ← Nat.shiftLeft_add_eq_or_of_lt y.isLt, Nat.shiftLeft_eq]

/-- The two bytes of a number given as a word: high byte first. -/
theorem twoBytes_natWord (n : Nat) : twoBytes (natWord n) = [BitVec.ofNat 8 (n / 256), BitVec.ofNat 8 n] := by
  simp only [twoBytes, natWord, List.cons.injEq, and_true]
  constructor <;> apply BitVec.eq_of_toNat_eq
  · simp [BitVec.extractLsb'_toNat, Nat.shiftRight_eq_div_pow]
    omega
  · simp [BitVec.extractLsb'_toNat, Nat.shiftRight_eq_div_pow]

/-- The two bytes of a signed number given as a word, in two's complement. -/
theorem twoBytes_intWord (v : Int) : twoBytes (intWord v) = [BitVec.ofInt 8 (v / 256), BitVec.ofInt 8 v] := by
  simp only [twoBytes, intWord, List.cons.injEq, and_true]
  constructor <;> apply BitVec.eq_of_toNat_eq <;>
    simp [BitVec.extractLsb'_toNat, Nat.shiftRight_eq_div_pow, BitVec.toNat_ofInt] <;> omega

/-- The two bytes of a word. -/
theorem twoBytes_eq (w : Word) : twoBytes w = [BitVec.ofNat 8 (w.toNat / 256), BitVec.ofNat 8 w.toNat] := by
  rw [← twoBytes_natWord]
  simp [natWord]

/-- A port and a tag as a byte. -/
theorem portTagByte_eq (p : Port) (t : Tag) : portTagByte p t = BitVec.ofNat 8 (p.val * 16 + t.toNat) := by
  revert p t
  decide

/-- The code field of a header word as a number. -/
theorem headerCode_eq (w : Word) : headerCode w = ReqCode.ofCode (w.toNat / 1024) := by
  have := w.isLt
  unfold headerCode
  congr 1
  simp [BitVec.extractLsb'_toNat, Nat.shiftRight_eq_div_pow]
  omega

/-- The tag field of a header word as a number. -/
theorem headerTag_toNat (w : Word) : (headerTag w).toNat = w.toNat / 64 % 16 := by
  simp [headerTag, BitVec.extractLsb'_toNat, Nat.shiftRight_eq_div_pow]

/-- The kind field of a kind word as a number. -/
theorem kindCode_eq (w : Word) : kindCode w = w.toNat % 16 := by
  simp [kindCode, BitVec.extractLsb'_toNat]

/-- The policy field of a kind word as a number. -/
theorem policyCode_eq (w : Word) : policyCode w = w.toNat / 16 % 16 := by
  simp [policyCode, BitVec.extractLsb'_toNat, Nat.shiftRight_eq_div_pow]

/-- A bit of a set of flags given as a word. -/
theorem getLsbD_bitsOf (f : Nat → Bool) {n k : Nat} (h : k < n) : (bitsOf f n).getLsbD k = f k := by
  induction n with
  | zero => omega
  | succ n ih =>
    simp only [bitsOf, BitVec.getLsbD_cons]
    split
    · simp_all
    · exact ih (by omega)

/-- The claimant of a flag that exists. -/
theorem claimant_eq (b : FlagSet) (n : FlagNo) : b.claimant n.val = b.claimants[n.val] := by
  unfold FlagSet.claimant
  rw [Vector.getElem?_eq_getElem n.isLt]
  rfl

/-- The records in a state counted slot by slot. -/
theorem recordCount_eq (s : State) (st : RecordState) :
    s.recordCount st = allSlots.countP fun i => (s.slot i).record.any fun r => r.state == st := by
  have h : s.slots.toList = allSlots.map s.slot := by
    apply List.ext_getElem
    · simp [allSlots]
    · intro i h1 h2
      simp [allSlots, State.slot]
  rw [State.recordCount, h, List.countP_map]
  rfl

end Sys2Proof.Machine
end

