-- ==== Sys2Proof/Laws/State.lean ====
section
/-! SUPPORT. What each update of the state leaves alone: one lemma for each field and each update that is a single structure
update. -/

namespace Sys2Proof.Machine

/-! ### modifyPort -/

@[simp] theorem State.modifyPort_rotation (p : Port) (f : PortState → PortState) (s : State) :
    (s.modifyPort p f).rotation = s.rotation := rfl
@[simp] theorem State.modifyPort_slots (p : Port) (f : PortState → PortState) (s : State) :
    (s.modifyPort p f).slots = s.slots := rfl
@[simp] theorem State.modifyPort_freeHoldings (p : Port) (f : PortState → PortState) (s : State) :
    (s.modifyPort p f).freeHoldings = s.freeHoldings := rfl
@[simp] theorem State.modifyPort_freeWaiters (p : Port) (f : PortState → PortState) (s : State) :
    (s.modifyPort p f).freeWaiters = s.freeWaiters := rfl
@[simp] theorem State.modifyPort_expiryEvents (p : Port) (f : PortState → PortState) (s : State) :
    (s.modifyPort p f).expiryEvents = s.expiryEvents := rfl
@[simp] theorem State.modifyPort_waitUnit (p : Port) (f : PortState → PortState) (s : State) :
    (s.modifyPort p f).waitUnit = s.waitUnit := rfl
@[simp] theorem State.modifyPort_unitPos (p : Port) (f : PortState → PortState) (s : State) :
    (s.modifyPort p f).unitPos = s.unitPos := rfl
@[simp] theorem State.modifyPort_changed (p : Port) (f : PortState → PortState) (s : State) :
    (s.modifyPort p f).changed = s.changed := rfl
@[simp] theorem State.modifyPort_lineCounts (p : Port) (f : PortState → PortState) (s : State) :
    (s.modifyPort p f).lineCounts = s.lineCounts := rfl
@[simp] theorem State.modifyPort_cursors (p : Port) (f : PortState → PortState) (s : State) :
    (s.modifyPort p f).cursors = s.cursors := rfl
@[simp] theorem State.modifyPort_servicePos (p : Port) (f : PortState → PortState) (s : State) :
    (s.modifyPort p f).servicePos = s.servicePos := rfl
@[simp] theorem State.modifyPort_condition (p : Port) (f : PortState → PortState) (s : State) :
    (s.modifyPort p f).condition = s.condition := rfl
@[simp] theorem State.modifyPort_failedAreas (p : Port) (f : PortState → PortState) (s : State) :
    (s.modifyPort p f).failedAreas = s.failedAreas := rfl
@[simp] theorem State.modifyPort_frame (p : Port) (f : PortState → PortState) (s : State) :
    (s.modifyPort p f).frame = s.frame := rfl
@[simp] theorem State.modifyPort_clear (p : Port) (f : PortState → PortState) (s : State) :
    (s.modifyPort p f).clear = s.clear := rfl
@[simp] theorem State.modifyPort_purgeSlot (p : Port) (f : PortState → PortState) (s : State) :
    (s.modifyPort p f).purgeSlot = s.purgeSlot := rfl
@[simp] theorem State.modifyPort_mattnReasons (p : Port) (f : PortState → PortState) (s : State) :
    (s.modifyPort p f).mattnReasons = s.mattnReasons := rfl
@[simp] theorem State.modifyPort_mattnMask (p : Port) (f : PortState → PortState) (s : State) :
    (s.modifyPort p f).mattnMask = s.mattnMask := rfl
@[simp] theorem State.modifyPort_resetAsserted (p : Port) (f : PortState → PortState) (s : State) :
    (s.modifyPort p f).resetAsserted = s.resetAsserted := rfl
@[simp] theorem State.modifyPort_chipSelect (p : Port) (f : PortState → PortState) (s : State) :
    (s.modifyPort p f).chipSelect = s.chipSelect := rfl
@[simp] theorem State.modifyPort_sdo (p : Port) (f : PortState → PortState) (s : State) :
    (s.modifyPort p f).sdo = s.sdo := rfl
@[simp] theorem State.modifyPort_pending (p : Port) (f : PortState → PortState) (s : State) :
    (s.modifyPort p f).pending = s.pending := rfl
@[simp] theorem State.modifyPort_slot (p : Port) (f : PortState → PortState) (s : State) (j : Slot) :
    (s.modifyPort p f).slot j = s.slot j := rfl

/-! ### writeSlot -/

@[simp] theorem State.writeSlot_ports (i : Slot) (x : SlotState) (s : State) :
    (s.writeSlot i x).ports = s.ports := rfl
@[simp] theorem State.writeSlot_rotation (i : Slot) (x : SlotState) (s : State) :
    (s.writeSlot i x).rotation = s.rotation := rfl
@[simp] theorem State.writeSlot_expiryEvents (i : Slot) (x : SlotState) (s : State) :
    (s.writeSlot i x).expiryEvents = s.expiryEvents := rfl
@[simp] theorem State.writeSlot_waitUnit (i : Slot) (x : SlotState) (s : State) :
    (s.writeSlot i x).waitUnit = s.waitUnit := rfl
@[simp] theorem State.writeSlot_unitPos (i : Slot) (x : SlotState) (s : State) :
    (s.writeSlot i x).unitPos = s.unitPos := rfl
@[simp] theorem State.writeSlot_changed (i : Slot) (x : SlotState) (s : State) :
    (s.writeSlot i x).changed = s.changed := rfl
@[simp] theorem State.writeSlot_lineCounts (i : Slot) (x : SlotState) (s : State) :
    (s.writeSlot i x).lineCounts = s.lineCounts := rfl
@[simp] theorem State.writeSlot_cursors (i : Slot) (x : SlotState) (s : State) :
    (s.writeSlot i x).cursors = s.cursors := rfl
@[simp] theorem State.writeSlot_servicePos (i : Slot) (x : SlotState) (s : State) :
    (s.writeSlot i x).servicePos = s.servicePos := rfl
@[simp] theorem State.writeSlot_condition (i : Slot) (x : SlotState) (s : State) :
    (s.writeSlot i x).condition = s.condition := rfl
@[simp] theorem State.writeSlot_failedAreas (i : Slot) (x : SlotState) (s : State) :
    (s.writeSlot i x).failedAreas = s.failedAreas := rfl
@[simp] theorem State.writeSlot_frame (i : Slot) (x : SlotState) (s : State) :
    (s.writeSlot i x).frame = s.frame := rfl
@[simp] theorem State.writeSlot_clear (i : Slot) (x : SlotState) (s : State) :
    (s.writeSlot i x).clear = s.clear := rfl
@[simp] theorem State.writeSlot_purgeSlot (i : Slot) (x : SlotState) (s : State) :
    (s.writeSlot i x).purgeSlot = s.purgeSlot := rfl
@[simp] theorem State.writeSlot_mattnReasons (i : Slot) (x : SlotState) (s : State) :
    (s.writeSlot i x).mattnReasons = s.mattnReasons := rfl
@[simp] theorem State.writeSlot_mattnMask (i : Slot) (x : SlotState) (s : State) :
    (s.writeSlot i x).mattnMask = s.mattnMask := rfl
@[simp] theorem State.writeSlot_resetAsserted (i : Slot) (x : SlotState) (s : State) :
    (s.writeSlot i x).resetAsserted = s.resetAsserted := rfl
@[simp] theorem State.writeSlot_chipSelect (i : Slot) (x : SlotState) (s : State) :
    (s.writeSlot i x).chipSelect = s.chipSelect := rfl
@[simp] theorem State.writeSlot_sdo (i : Slot) (x : SlotState) (s : State) :
    (s.writeSlot i x).sdo = s.sdo := rfl
@[simp] theorem State.writeSlot_pending (i : Slot) (x : SlotState) (s : State) :
    (s.writeSlot i x).pending = s.pending := rfl
@[simp] theorem State.writeSlot_port (i : Slot) (x : SlotState) (s : State) (q : Port) :
    (s.writeSlot i x).port q = s.port q := rfl

/-! ### writeRecord -/

@[simp] theorem State.writeRecord_ports (i : Slot) (r : Record) (s : State) :
    (s.writeRecord i r).ports = s.ports := rfl
@[simp] theorem State.writeRecord_rotation (i : Slot) (r : Record) (s : State) :
    (s.writeRecord i r).rotation = s.rotation := rfl
@[simp] theorem State.writeRecord_expiryEvents (i : Slot) (r : Record) (s : State) :
    (s.writeRecord i r).expiryEvents = s.expiryEvents := rfl
@[simp] theorem State.writeRecord_waitUnit (i : Slot) (r : Record) (s : State) :
    (s.writeRecord i r).waitUnit = s.waitUnit := rfl
@[simp] theorem State.writeRecord_unitPos (i : Slot) (r : Record) (s : State) :
    (s.writeRecord i r).unitPos = s.unitPos := rfl
@[simp] theorem State.writeRecord_changed (i : Slot) (r : Record) (s : State) :
    (s.writeRecord i r).changed = s.changed := rfl
@[simp] theorem State.writeRecord_lineCounts (i : Slot) (r : Record) (s : State) :
    (s.writeRecord i r).lineCounts = s.lineCounts := rfl
@[simp] theorem State.writeRecord_cursors (i : Slot) (r : Record) (s : State) :
    (s.writeRecord i r).cursors = s.cursors := rfl
@[simp] theorem State.writeRecord_servicePos (i : Slot) (r : Record) (s : State) :
    (s.writeRecord i r).servicePos = s.servicePos := rfl
@[simp] theorem State.writeRecord_condition (i : Slot) (r : Record) (s : State) :
    (s.writeRecord i r).condition = s.condition := rfl
@[simp] theorem State.writeRecord_failedAreas (i : Slot) (r : Record) (s : State) :
    (s.writeRecord i r).failedAreas = s.failedAreas := rfl
@[simp] theorem State.writeRecord_frame (i : Slot) (r : Record) (s : State) :
    (s.writeRecord i r).frame = s.frame := rfl
@[simp] theorem State.writeRecord_clear (i : Slot) (r : Record) (s : State) :
    (s.writeRecord i r).clear = s.clear := rfl
@[simp] theorem State.writeRecord_purgeSlot (i : Slot) (r : Record) (s : State) :
    (s.writeRecord i r).purgeSlot = s.purgeSlot := rfl
@[simp] theorem State.writeRecord_mattnReasons (i : Slot) (r : Record) (s : State) :
    (s.writeRecord i r).mattnReasons = s.mattnReasons := rfl
@[simp] theorem State.writeRecord_mattnMask (i : Slot) (r : Record) (s : State) :
    (s.writeRecord i r).mattnMask = s.mattnMask := rfl
@[simp] theorem State.writeRecord_resetAsserted (i : Slot) (r : Record) (s : State) :
    (s.writeRecord i r).resetAsserted = s.resetAsserted := rfl
@[simp] theorem State.writeRecord_chipSelect (i : Slot) (r : Record) (s : State) :
    (s.writeRecord i r).chipSelect = s.chipSelect := rfl
@[simp] theorem State.writeRecord_sdo (i : Slot) (r : Record) (s : State) :
    (s.writeRecord i r).sdo = s.sdo := rfl
@[simp] theorem State.writeRecord_pending (i : Slot) (r : Record) (s : State) :
    (s.writeRecord i r).pending = s.pending := rfl
@[simp] theorem State.writeRecord_port (i : Slot) (r : Record) (s : State) (q : Port) :
    (s.writeRecord i r).port q = s.port q := rfl

/-! ### notify -/

@[simp] theorem State.notify_ports (w : Vector WatchMode 4) (e : ChangedEntry) (s : State) :
    (s.notify w e).ports = s.ports := rfl
@[simp] theorem State.notify_rotation (w : Vector WatchMode 4) (e : ChangedEntry) (s : State) :
    (s.notify w e).rotation = s.rotation := rfl
@[simp] theorem State.notify_slots (w : Vector WatchMode 4) (e : ChangedEntry) (s : State) :
    (s.notify w e).slots = s.slots := rfl
@[simp] theorem State.notify_freeHoldings (w : Vector WatchMode 4) (e : ChangedEntry) (s : State) :
    (s.notify w e).freeHoldings = s.freeHoldings := rfl
@[simp] theorem State.notify_freeWaiters (w : Vector WatchMode 4) (e : ChangedEntry) (s : State) :
    (s.notify w e).freeWaiters = s.freeWaiters := rfl
@[simp] theorem State.notify_expiryEvents (w : Vector WatchMode 4) (e : ChangedEntry) (s : State) :
    (s.notify w e).expiryEvents = s.expiryEvents := rfl
@[simp] theorem State.notify_waitUnit (w : Vector WatchMode 4) (e : ChangedEntry) (s : State) :
    (s.notify w e).waitUnit = s.waitUnit := rfl
@[simp] theorem State.notify_unitPos (w : Vector WatchMode 4) (e : ChangedEntry) (s : State) :
    (s.notify w e).unitPos = s.unitPos := rfl
@[simp] theorem State.notify_lineCounts (w : Vector WatchMode 4) (e : ChangedEntry) (s : State) :
    (s.notify w e).lineCounts = s.lineCounts := rfl
@[simp] theorem State.notify_cursors (w : Vector WatchMode 4) (e : ChangedEntry) (s : State) :
    (s.notify w e).cursors = s.cursors := rfl
@[simp] theorem State.notify_servicePos (w : Vector WatchMode 4) (e : ChangedEntry) (s : State) :
    (s.notify w e).servicePos = s.servicePos := rfl
@[simp] theorem State.notify_condition (w : Vector WatchMode 4) (e : ChangedEntry) (s : State) :
    (s.notify w e).condition = s.condition := rfl
@[simp] theorem State.notify_failedAreas (w : Vector WatchMode 4) (e : ChangedEntry) (s : State) :
    (s.notify w e).failedAreas = s.failedAreas := rfl
@[simp] theorem State.notify_frame (w : Vector WatchMode 4) (e : ChangedEntry) (s : State) :
    (s.notify w e).frame = s.frame := rfl
@[simp] theorem State.notify_clear (w : Vector WatchMode 4) (e : ChangedEntry) (s : State) :
    (s.notify w e).clear = s.clear := rfl
@[simp] theorem State.notify_purgeSlot (w : Vector WatchMode 4) (e : ChangedEntry) (s : State) :
    (s.notify w e).purgeSlot = s.purgeSlot := rfl
@[simp] theorem State.notify_mattnReasons (w : Vector WatchMode 4) (e : ChangedEntry) (s : State) :
    (s.notify w e).mattnReasons = s.mattnReasons := rfl
@[simp] theorem State.notify_mattnMask (w : Vector WatchMode 4) (e : ChangedEntry) (s : State) :
    (s.notify w e).mattnMask = s.mattnMask := rfl
@[simp] theorem State.notify_resetAsserted (w : Vector WatchMode 4) (e : ChangedEntry) (s : State) :
    (s.notify w e).resetAsserted = s.resetAsserted := rfl
@[simp] theorem State.notify_chipSelect (w : Vector WatchMode 4) (e : ChangedEntry) (s : State) :
    (s.notify w e).chipSelect = s.chipSelect := rfl
@[simp] theorem State.notify_sdo (w : Vector WatchMode 4) (e : ChangedEntry) (s : State) :
    (s.notify w e).sdo = s.sdo := rfl
@[simp] theorem State.notify_pending (w : Vector WatchMode 4) (e : ChangedEntry) (s : State) :
    (s.notify w e).pending = s.pending := rfl
@[simp] theorem State.notify_slot (w : Vector WatchMode 4) (e : ChangedEntry) (s : State) (j : Slot) :
    (s.notify w e).slot j = s.slot j := rfl
@[simp] theorem State.notify_port (w : Vector WatchMode 4) (e : ChangedEntry) (s : State) (q : Port) :
    (s.notify w e).port q = s.port q := rfl

/-! ### countLine -/

@[simp] theorem State.countLine_ports (x : LineNo) (f : Nat → Nat) (s : State) :
    (s.countLine x f).ports = s.ports := rfl
@[simp] theorem State.countLine_rotation (x : LineNo) (f : Nat → Nat) (s : State) :
    (s.countLine x f).rotation = s.rotation := rfl
@[simp] theorem State.countLine_slots (x : LineNo) (f : Nat → Nat) (s : State) :
    (s.countLine x f).slots = s.slots := rfl
@[simp] theorem State.countLine_freeHoldings (x : LineNo) (f : Nat → Nat) (s : State) :
    (s.countLine x f).freeHoldings = s.freeHoldings := rfl
@[simp] theorem State.countLine_freeWaiters (x : LineNo) (f : Nat → Nat) (s : State) :
    (s.countLine x f).freeWaiters = s.freeWaiters := rfl
@[simp] theorem State.countLine_expiryEvents (x : LineNo) (f : Nat → Nat) (s : State) :
    (s.countLine x f).expiryEvents = s.expiryEvents := rfl
@[simp] theorem State.countLine_waitUnit (x : LineNo) (f : Nat → Nat) (s : State) :
    (s.countLine x f).waitUnit = s.waitUnit := rfl
@[simp] theorem State.countLine_unitPos (x : LineNo) (f : Nat → Nat) (s : State) :
    (s.countLine x f).unitPos = s.unitPos := rfl
@[simp] theorem State.countLine_changed (x : LineNo) (f : Nat → Nat) (s : State) :
    (s.countLine x f).changed = s.changed := rfl
@[simp] theorem State.countLine_cursors (x : LineNo) (f : Nat → Nat) (s : State) :
    (s.countLine x f).cursors = s.cursors := rfl
@[simp] theorem State.countLine_servicePos (x : LineNo) (f : Nat → Nat) (s : State) :
    (s.countLine x f).servicePos = s.servicePos := rfl
@[simp] theorem State.countLine_condition (x : LineNo) (f : Nat → Nat) (s : State) :
    (s.countLine x f).condition = s.condition := rfl
@[simp] theorem State.countLine_failedAreas (x : LineNo) (f : Nat → Nat) (s : State) :
    (s.countLine x f).failedAreas = s.failedAreas := rfl
@[simp] theorem State.countLine_frame (x : LineNo) (f : Nat → Nat) (s : State) :
    (s.countLine x f).frame = s.frame := rfl
@[simp] theorem State.countLine_clear (x : LineNo) (f : Nat → Nat) (s : State) :
    (s.countLine x f).clear = s.clear := rfl
@[simp] theorem State.countLine_purgeSlot (x : LineNo) (f : Nat → Nat) (s : State) :
    (s.countLine x f).purgeSlot = s.purgeSlot := rfl
@[simp] theorem State.countLine_mattnReasons (x : LineNo) (f : Nat → Nat) (s : State) :
    (s.countLine x f).mattnReasons = s.mattnReasons := rfl
@[simp] theorem State.countLine_mattnMask (x : LineNo) (f : Nat → Nat) (s : State) :
    (s.countLine x f).mattnMask = s.mattnMask := rfl
@[simp] theorem State.countLine_resetAsserted (x : LineNo) (f : Nat → Nat) (s : State) :
    (s.countLine x f).resetAsserted = s.resetAsserted := rfl
@[simp] theorem State.countLine_chipSelect (x : LineNo) (f : Nat → Nat) (s : State) :
    (s.countLine x f).chipSelect = s.chipSelect := rfl
@[simp] theorem State.countLine_sdo (x : LineNo) (f : Nat → Nat) (s : State) :
    (s.countLine x f).sdo = s.sdo := rfl
@[simp] theorem State.countLine_pending (x : LineNo) (f : Nat → Nat) (s : State) :
    (s.countLine x f).pending = s.pending := rfl
@[simp] theorem State.countLine_slot (x : LineNo) (f : Nat → Nat) (s : State) (j : Slot) :
    (s.countLine x f).slot j = s.slot j := rfl
@[simp] theorem State.countLine_port (x : LineNo) (f : Nat → Nat) (s : State) (q : Port) :
    (s.countLine x f).port q = s.port q := rfl

/-! ### setReason -/

@[simp] theorem State.setReason_ports (n : Nat) (s : State) :
    (s.setReason n).ports = s.ports := rfl
@[simp] theorem State.setReason_rotation (n : Nat) (s : State) :
    (s.setReason n).rotation = s.rotation := rfl
@[simp] theorem State.setReason_slots (n : Nat) (s : State) :
    (s.setReason n).slots = s.slots := rfl
@[simp] theorem State.setReason_freeHoldings (n : Nat) (s : State) :
    (s.setReason n).freeHoldings = s.freeHoldings := rfl
@[simp] theorem State.setReason_freeWaiters (n : Nat) (s : State) :
    (s.setReason n).freeWaiters = s.freeWaiters := rfl
@[simp] theorem State.setReason_expiryEvents (n : Nat) (s : State) :
    (s.setReason n).expiryEvents = s.expiryEvents := rfl
@[simp] theorem State.setReason_waitUnit (n : Nat) (s : State) :
    (s.setReason n).waitUnit = s.waitUnit := rfl
@[simp] theorem State.setReason_unitPos (n : Nat) (s : State) :
    (s.setReason n).unitPos = s.unitPos := rfl
@[simp] theorem State.setReason_changed (n : Nat) (s : State) :
    (s.setReason n).changed = s.changed := rfl
@[simp] theorem State.setReason_lineCounts (n : Nat) (s : State) :
    (s.setReason n).lineCounts = s.lineCounts := rfl
@[simp] theorem State.setReason_cursors (n : Nat) (s : State) :
    (s.setReason n).cursors = s.cursors := rfl
@[simp] theorem State.setReason_servicePos (n : Nat) (s : State) :
    (s.setReason n).servicePos = s.servicePos := rfl
@[simp] theorem State.setReason_condition (n : Nat) (s : State) :
    (s.setReason n).condition = s.condition := rfl
@[simp] theorem State.setReason_failedAreas (n : Nat) (s : State) :
    (s.setReason n).failedAreas = s.failedAreas := rfl
@[simp] theorem State.setReason_frame (n : Nat) (s : State) :
    (s.setReason n).frame = s.frame := rfl
@[simp] theorem State.setReason_clear (n : Nat) (s : State) :
    (s.setReason n).clear = s.clear := rfl
@[simp] theorem State.setReason_purgeSlot (n : Nat) (s : State) :
    (s.setReason n).purgeSlot = s.purgeSlot := rfl
@[simp] theorem State.setReason_mattnMask (n : Nat) (s : State) :
    (s.setReason n).mattnMask = s.mattnMask := rfl
@[simp] theorem State.setReason_resetAsserted (n : Nat) (s : State) :
    (s.setReason n).resetAsserted = s.resetAsserted := rfl
@[simp] theorem State.setReason_chipSelect (n : Nat) (s : State) :
    (s.setReason n).chipSelect = s.chipSelect := rfl
@[simp] theorem State.setReason_sdo (n : Nat) (s : State) :
    (s.setReason n).sdo = s.sdo := rfl
@[simp] theorem State.setReason_pending (n : Nat) (s : State) :
    (s.setReason n).pending = s.pending := rfl
@[simp] theorem State.setReason_slot (n : Nat) (s : State) (j : Slot) :
    (s.setReason n).slot j = s.slot j := rfl
@[simp] theorem State.setReason_port (n : Nat) (s : State) (q : Port) :
    (s.setReason n).port q = s.port q := rfl

/-! ### serve -/

@[simp] theorem State.serve_ports (c : Claimant) (s : State) :
    (s.serve c).ports = s.ports := rfl
@[simp] theorem State.serve_slots (c : Claimant) (s : State) :
    (s.serve c).slots = s.slots := rfl
@[simp] theorem State.serve_freeHoldings (c : Claimant) (s : State) :
    (s.serve c).freeHoldings = s.freeHoldings := rfl
@[simp] theorem State.serve_freeWaiters (c : Claimant) (s : State) :
    (s.serve c).freeWaiters = s.freeWaiters := rfl
@[simp] theorem State.serve_expiryEvents (c : Claimant) (s : State) :
    (s.serve c).expiryEvents = s.expiryEvents := rfl
@[simp] theorem State.serve_waitUnit (c : Claimant) (s : State) :
    (s.serve c).waitUnit = s.waitUnit := rfl
@[simp] theorem State.serve_unitPos (c : Claimant) (s : State) :
    (s.serve c).unitPos = s.unitPos := rfl
@[simp] theorem State.serve_changed (c : Claimant) (s : State) :
    (s.serve c).changed = s.changed := rfl
@[simp] theorem State.serve_lineCounts (c : Claimant) (s : State) :
    (s.serve c).lineCounts = s.lineCounts := rfl
@[simp] theorem State.serve_cursors (c : Claimant) (s : State) :
    (s.serve c).cursors = s.cursors := rfl
@[simp] theorem State.serve_servicePos (c : Claimant) (s : State) :
    (s.serve c).servicePos = s.servicePos := rfl
@[simp] theorem State.serve_condition (c : Claimant) (s : State) :
    (s.serve c).condition = s.condition := rfl
@[simp] theorem State.serve_failedAreas (c : Claimant) (s : State) :
    (s.serve c).failedAreas = s.failedAreas := rfl
@[simp] theorem State.serve_frame (c : Claimant) (s : State) :
    (s.serve c).frame = s.frame := rfl
@[simp] theorem State.serve_clear (c : Claimant) (s : State) :
    (s.serve c).clear = s.clear := rfl
@[simp] theorem State.serve_purgeSlot (c : Claimant) (s : State) :
    (s.serve c).purgeSlot = s.purgeSlot := rfl
@[simp] theorem State.serve_mattnReasons (c : Claimant) (s : State) :
    (s.serve c).mattnReasons = s.mattnReasons := rfl
@[simp] theorem State.serve_mattnMask (c : Claimant) (s : State) :
    (s.serve c).mattnMask = s.mattnMask := rfl
@[simp] theorem State.serve_resetAsserted (c : Claimant) (s : State) :
    (s.serve c).resetAsserted = s.resetAsserted := rfl
@[simp] theorem State.serve_chipSelect (c : Claimant) (s : State) :
    (s.serve c).chipSelect = s.chipSelect := rfl
@[simp] theorem State.serve_sdo (c : Claimant) (s : State) :
    (s.serve c).sdo = s.sdo := rfl
@[simp] theorem State.serve_pending (c : Claimant) (s : State) :
    (s.serve c).pending = s.pending := rfl
@[simp] theorem State.serve_slot (c : Claimant) (s : State) (j : Slot) :
    (s.serve c).slot j = s.slot j := rfl
@[simp] theorem State.serve_port (c : Claimant) (s : State) (q : Port) :
    (s.serve c).port q = s.port q := rfl

/-! ### respond -/

@[simp] theorem State.respond_ports (st : LinkStatus) (data : List Byte) (s : State) :
    (s.respond st data).ports = s.ports := rfl
@[simp] theorem State.respond_rotation (st : LinkStatus) (data : List Byte) (s : State) :
    (s.respond st data).rotation = s.rotation := rfl
@[simp] theorem State.respond_slots (st : LinkStatus) (data : List Byte) (s : State) :
    (s.respond st data).slots = s.slots := rfl
@[simp] theorem State.respond_freeHoldings (st : LinkStatus) (data : List Byte) (s : State) :
    (s.respond st data).freeHoldings = s.freeHoldings := rfl
@[simp] theorem State.respond_freeWaiters (st : LinkStatus) (data : List Byte) (s : State) :
    (s.respond st data).freeWaiters = s.freeWaiters := rfl
@[simp] theorem State.respond_expiryEvents (st : LinkStatus) (data : List Byte) (s : State) :
    (s.respond st data).expiryEvents = s.expiryEvents := rfl
@[simp] theorem State.respond_waitUnit (st : LinkStatus) (data : List Byte) (s : State) :
    (s.respond st data).waitUnit = s.waitUnit := rfl
@[simp] theorem State.respond_unitPos (st : LinkStatus) (data : List Byte) (s : State) :
    (s.respond st data).unitPos = s.unitPos := rfl
@[simp] theorem State.respond_changed (st : LinkStatus) (data : List Byte) (s : State) :
    (s.respond st data).changed = s.changed := rfl
@[simp] theorem State.respond_lineCounts (st : LinkStatus) (data : List Byte) (s : State) :
    (s.respond st data).lineCounts = s.lineCounts := rfl
@[simp] theorem State.respond_cursors (st : LinkStatus) (data : List Byte) (s : State) :
    (s.respond st data).cursors = s.cursors := rfl
@[simp] theorem State.respond_servicePos (st : LinkStatus) (data : List Byte) (s : State) :
    (s.respond st data).servicePos = s.servicePos := rfl
@[simp] theorem State.respond_condition (st : LinkStatus) (data : List Byte) (s : State) :
    (s.respond st data).condition = s.condition := rfl
@[simp] theorem State.respond_failedAreas (st : LinkStatus) (data : List Byte) (s : State) :
    (s.respond st data).failedAreas = s.failedAreas := rfl
@[simp] theorem State.respond_clear (st : LinkStatus) (data : List Byte) (s : State) :
    (s.respond st data).clear = s.clear := rfl
@[simp] theorem State.respond_purgeSlot (st : LinkStatus) (data : List Byte) (s : State) :
    (s.respond st data).purgeSlot = s.purgeSlot := rfl
@[simp] theorem State.respond_mattnReasons (st : LinkStatus) (data : List Byte) (s : State) :
    (s.respond st data).mattnReasons = s.mattnReasons := rfl
@[simp] theorem State.respond_mattnMask (st : LinkStatus) (data : List Byte) (s : State) :
    (s.respond st data).mattnMask = s.mattnMask := rfl
@[simp] theorem State.respond_resetAsserted (st : LinkStatus) (data : List Byte) (s : State) :
    (s.respond st data).resetAsserted = s.resetAsserted := rfl
@[simp] theorem State.respond_chipSelect (st : LinkStatus) (data : List Byte) (s : State) :
    (s.respond st data).chipSelect = s.chipSelect := rfl
@[simp] theorem State.respond_pending (st : LinkStatus) (data : List Byte) (s : State) :
    (s.respond st data).pending = s.pending := rfl
@[simp] theorem State.respond_slot (st : LinkStatus) (data : List Byte) (s : State) (j : Slot) :
    (s.respond st data).slot j = s.slot j := rfl
@[simp] theorem State.respond_port (st : LinkStatus) (data : List Byte) (s : State) (q : Port) :
    (s.respond st data).port q = s.port q := rfl

/-! ### respondLater -/

@[simp] theorem State.respondLater_ports (s : State) :
    (s.respondLater).ports = s.ports := rfl
@[simp] theorem State.respondLater_rotation (s : State) :
    (s.respondLater).rotation = s.rotation := rfl
@[simp] theorem State.respondLater_slots (s : State) :
    (s.respondLater).slots = s.slots := rfl
@[simp] theorem State.respondLater_freeHoldings (s : State) :
    (s.respondLater).freeHoldings = s.freeHoldings := rfl
@[simp] theorem State.respondLater_freeWaiters (s : State) :
    (s.respondLater).freeWaiters = s.freeWaiters := rfl
@[simp] theorem State.respondLater_expiryEvents (s : State) :
    (s.respondLater).expiryEvents = s.expiryEvents := rfl
@[simp] theorem State.respondLater_waitUnit (s : State) :
    (s.respondLater).waitUnit = s.waitUnit := rfl
@[simp] theorem State.respondLater_unitPos (s : State) :
    (s.respondLater).unitPos = s.unitPos := rfl
@[simp] theorem State.respondLater_changed (s : State) :
    (s.respondLater).changed = s.changed := rfl
@[simp] theorem State.respondLater_lineCounts (s : State) :
    (s.respondLater).lineCounts = s.lineCounts := rfl
@[simp] theorem State.respondLater_cursors (s : State) :
    (s.respondLater).cursors = s.cursors := rfl
@[simp] theorem State.respondLater_servicePos (s : State) :
    (s.respondLater).servicePos = s.servicePos := rfl
@[simp] theorem State.respondLater_condition (s : State) :
    (s.respondLater).condition = s.condition := rfl
@[simp] theorem State.respondLater_failedAreas (s : State) :
    (s.respondLater).failedAreas = s.failedAreas := rfl
@[simp] theorem State.respondLater_clear (s : State) :
    (s.respondLater).clear = s.clear := rfl
@[simp] theorem State.respondLater_purgeSlot (s : State) :
    (s.respondLater).purgeSlot = s.purgeSlot := rfl
@[simp] theorem State.respondLater_mattnReasons (s : State) :
    (s.respondLater).mattnReasons = s.mattnReasons := rfl
@[simp] theorem State.respondLater_mattnMask (s : State) :
    (s.respondLater).mattnMask = s.mattnMask := rfl
@[simp] theorem State.respondLater_resetAsserted (s : State) :
    (s.respondLater).resetAsserted = s.resetAsserted := rfl
@[simp] theorem State.respondLater_chipSelect (s : State) :
    (s.respondLater).chipSelect = s.chipSelect := rfl
@[simp] theorem State.respondLater_pending (s : State) :
    (s.respondLater).pending = s.pending := rfl
@[simp] theorem State.respondLater_slot (s : State) (j : Slot) :
    (s.respondLater).slot j = s.slot j := rfl
@[simp] theorem State.respondLater_port (s : State) (q : Port) :
    (s.respondLater).port q = s.port q := rfl

/-! ### expectArgument -/

@[simp] theorem State.expectArgument_ports (c : LinkCommand) (s : State) :
    (s.expectArgument c).ports = s.ports := rfl
@[simp] theorem State.expectArgument_rotation (c : LinkCommand) (s : State) :
    (s.expectArgument c).rotation = s.rotation := rfl
@[simp] theorem State.expectArgument_slots (c : LinkCommand) (s : State) :
    (s.expectArgument c).slots = s.slots := rfl
@[simp] theorem State.expectArgument_freeHoldings (c : LinkCommand) (s : State) :
    (s.expectArgument c).freeHoldings = s.freeHoldings := rfl
@[simp] theorem State.expectArgument_freeWaiters (c : LinkCommand) (s : State) :
    (s.expectArgument c).freeWaiters = s.freeWaiters := rfl
@[simp] theorem State.expectArgument_expiryEvents (c : LinkCommand) (s : State) :
    (s.expectArgument c).expiryEvents = s.expiryEvents := rfl
@[simp] theorem State.expectArgument_waitUnit (c : LinkCommand) (s : State) :
    (s.expectArgument c).waitUnit = s.waitUnit := rfl
@[simp] theorem State.expectArgument_unitPos (c : LinkCommand) (s : State) :
    (s.expectArgument c).unitPos = s.unitPos := rfl
@[simp] theorem State.expectArgument_changed (c : LinkCommand) (s : State) :
    (s.expectArgument c).changed = s.changed := rfl
@[simp] theorem State.expectArgument_lineCounts (c : LinkCommand) (s : State) :
    (s.expectArgument c).lineCounts = s.lineCounts := rfl
@[simp] theorem State.expectArgument_cursors (c : LinkCommand) (s : State) :
    (s.expectArgument c).cursors = s.cursors := rfl
@[simp] theorem State.expectArgument_servicePos (c : LinkCommand) (s : State) :
    (s.expectArgument c).servicePos = s.servicePos := rfl
@[simp] theorem State.expectArgument_condition (c : LinkCommand) (s : State) :
    (s.expectArgument c).condition = s.condition := rfl
@[simp] theorem State.expectArgument_failedAreas (c : LinkCommand) (s : State) :
    (s.expectArgument c).failedAreas = s.failedAreas := rfl
@[simp] theorem State.expectArgument_clear (c : LinkCommand) (s : State) :
    (s.expectArgument c).clear = s.clear := rfl
@[simp] theorem State.expectArgument_purgeSlot (c : LinkCommand) (s : State) :
    (s.expectArgument c).purgeSlot = s.purgeSlot := rfl
@[simp] theorem State.expectArgument_mattnReasons (c : LinkCommand) (s : State) :
    (s.expectArgument c).mattnReasons = s.mattnReasons := rfl
@[simp] theorem State.expectArgument_mattnMask (c : LinkCommand) (s : State) :
    (s.expectArgument c).mattnMask = s.mattnMask := rfl
@[simp] theorem State.expectArgument_resetAsserted (c : LinkCommand) (s : State) :
    (s.expectArgument c).resetAsserted = s.resetAsserted := rfl
@[simp] theorem State.expectArgument_chipSelect (c : LinkCommand) (s : State) :
    (s.expectArgument c).chipSelect = s.chipSelect := rfl
@[simp] theorem State.expectArgument_pending (c : LinkCommand) (s : State) :
    (s.expectArgument c).pending = s.pending := rfl
@[simp] theorem State.expectArgument_slot (c : LinkCommand) (s : State) (j : Slot) :
    (s.expectArgument c).slot j = s.slot j := rfl
@[simp] theorem State.expectArgument_port (c : LinkCommand) (s : State) (q : Port) :
    (s.expectArgument c).port q = s.port q := rfl

/-! ### setMode -/

@[simp] theorem State.setMode_rotation (p : Port) (m : PortMode) (s : State) :
    (s.setMode p m).rotation = s.rotation := rfl
@[simp] theorem State.setMode_slots (p : Port) (m : PortMode) (s : State) :
    (s.setMode p m).slots = s.slots := rfl
@[simp] theorem State.setMode_freeHoldings (p : Port) (m : PortMode) (s : State) :
    (s.setMode p m).freeHoldings = s.freeHoldings := rfl
@[simp] theorem State.setMode_freeWaiters (p : Port) (m : PortMode) (s : State) :
    (s.setMode p m).freeWaiters = s.freeWaiters := rfl
@[simp] theorem State.setMode_expiryEvents (p : Port) (m : PortMode) (s : State) :
    (s.setMode p m).expiryEvents = s.expiryEvents := rfl
@[simp] theorem State.setMode_waitUnit (p : Port) (m : PortMode) (s : State) :
    (s.setMode p m).waitUnit = s.waitUnit := rfl
@[simp] theorem State.setMode_unitPos (p : Port) (m : PortMode) (s : State) :
    (s.setMode p m).unitPos = s.unitPos := rfl
@[simp] theorem State.setMode_changed (p : Port) (m : PortMode) (s : State) :
    (s.setMode p m).changed = s.changed := rfl
@[simp] theorem State.setMode_lineCounts (p : Port) (m : PortMode) (s : State) :
    (s.setMode p m).lineCounts = s.lineCounts := rfl
@[simp] theorem State.setMode_cursors (p : Port) (m : PortMode) (s : State) :
    (s.setMode p m).cursors = s.cursors := rfl
@[simp] theorem State.setMode_servicePos (p : Port) (m : PortMode) (s : State) :
    (s.setMode p m).servicePos = s.servicePos := rfl
@[simp] theorem State.setMode_condition (p : Port) (m : PortMode) (s : State) :
    (s.setMode p m).condition = s.condition := rfl
@[simp] theorem State.setMode_failedAreas (p : Port) (m : PortMode) (s : State) :
    (s.setMode p m).failedAreas = s.failedAreas := rfl
@[simp] theorem State.setMode_frame (p : Port) (m : PortMode) (s : State) :
    (s.setMode p m).frame = s.frame := rfl
@[simp] theorem State.setMode_clear (p : Port) (m : PortMode) (s : State) :
    (s.setMode p m).clear = s.clear := rfl
@[simp] theorem State.setMode_purgeSlot (p : Port) (m : PortMode) (s : State) :
    (s.setMode p m).purgeSlot = s.purgeSlot := rfl
@[simp] theorem State.setMode_mattnReasons (p : Port) (m : PortMode) (s : State) :
    (s.setMode p m).mattnReasons = s.mattnReasons := rfl
@[simp] theorem State.setMode_mattnMask (p : Port) (m : PortMode) (s : State) :
    (s.setMode p m).mattnMask = s.mattnMask := rfl
@[simp] theorem State.setMode_resetAsserted (p : Port) (m : PortMode) (s : State) :
    (s.setMode p m).resetAsserted = s.resetAsserted := rfl
@[simp] theorem State.setMode_chipSelect (p : Port) (m : PortMode) (s : State) :
    (s.setMode p m).chipSelect = s.chipSelect := rfl
@[simp] theorem State.setMode_sdo (p : Port) (m : PortMode) (s : State) :
    (s.setMode p m).sdo = s.sdo := rfl
@[simp] theorem State.setMode_pending (p : Port) (m : PortMode) (s : State) :
    (s.setMode p m).pending = s.pending := rfl
@[simp] theorem State.setMode_slot (p : Port) (m : PortMode) (s : State) (j : Slot) :
    (s.setMode p m).slot j = s.slot j := rfl

/-! ### submit -/

@[simp] theorem State.submit_rotation (p : Port) (w : Word) (s : State) :
    (s.submit p w).rotation = s.rotation := rfl
@[simp] theorem State.submit_slots (p : Port) (w : Word) (s : State) :
    (s.submit p w).slots = s.slots := rfl
@[simp] theorem State.submit_freeHoldings (p : Port) (w : Word) (s : State) :
    (s.submit p w).freeHoldings = s.freeHoldings := rfl
@[simp] theorem State.submit_freeWaiters (p : Port) (w : Word) (s : State) :
    (s.submit p w).freeWaiters = s.freeWaiters := rfl
@[simp] theorem State.submit_expiryEvents (p : Port) (w : Word) (s : State) :
    (s.submit p w).expiryEvents = s.expiryEvents := rfl
@[simp] theorem State.submit_waitUnit (p : Port) (w : Word) (s : State) :
    (s.submit p w).waitUnit = s.waitUnit := rfl
@[simp] theorem State.submit_unitPos (p : Port) (w : Word) (s : State) :
    (s.submit p w).unitPos = s.unitPos := rfl
@[simp] theorem State.submit_changed (p : Port) (w : Word) (s : State) :
    (s.submit p w).changed = s.changed := rfl
@[simp] theorem State.submit_lineCounts (p : Port) (w : Word) (s : State) :
    (s.submit p w).lineCounts = s.lineCounts := rfl
@[simp] theorem State.submit_cursors (p : Port) (w : Word) (s : State) :
    (s.submit p w).cursors = s.cursors := rfl
@[simp] theorem State.submit_servicePos (p : Port) (w : Word) (s : State) :
    (s.submit p w).servicePos = s.servicePos := rfl
@[simp] theorem State.submit_condition (p : Port) (w : Word) (s : State) :
    (s.submit p w).condition = s.condition := rfl
@[simp] theorem State.submit_failedAreas (p : Port) (w : Word) (s : State) :
    (s.submit p w).failedAreas = s.failedAreas := rfl
@[simp] theorem State.submit_frame (p : Port) (w : Word) (s : State) :
    (s.submit p w).frame = s.frame := rfl
@[simp] theorem State.submit_clear (p : Port) (w : Word) (s : State) :
    (s.submit p w).clear = s.clear := rfl
@[simp] theorem State.submit_purgeSlot (p : Port) (w : Word) (s : State) :
    (s.submit p w).purgeSlot = s.purgeSlot := rfl
@[simp] theorem State.submit_mattnReasons (p : Port) (w : Word) (s : State) :
    (s.submit p w).mattnReasons = s.mattnReasons := rfl
@[simp] theorem State.submit_mattnMask (p : Port) (w : Word) (s : State) :
    (s.submit p w).mattnMask = s.mattnMask := rfl
@[simp] theorem State.submit_resetAsserted (p : Port) (w : Word) (s : State) :
    (s.submit p w).resetAsserted = s.resetAsserted := rfl
@[simp] theorem State.submit_chipSelect (p : Port) (w : Word) (s : State) :
    (s.submit p w).chipSelect = s.chipSelect := rfl
@[simp] theorem State.submit_sdo (p : Port) (w : Word) (s : State) :
    (s.submit p w).sdo = s.sdo := rfl
@[simp] theorem State.submit_pending (p : Port) (w : Word) (s : State) :
    (s.submit p w).pending = s.pending := rfl
@[simp] theorem State.submit_slot (p : Port) (w : Word) (s : State) (j : Slot) :
    (s.submit p w).slot j = s.slot j := rfl

/-! ### writeControl -/

@[simp] theorem State.writeControl_rotation (p : Port) (w : Word) (s : State) :
    (s.writeControl p w).rotation = s.rotation := rfl
@[simp] theorem State.writeControl_slots (p : Port) (w : Word) (s : State) :
    (s.writeControl p w).slots = s.slots := rfl
@[simp] theorem State.writeControl_freeHoldings (p : Port) (w : Word) (s : State) :
    (s.writeControl p w).freeHoldings = s.freeHoldings := rfl
@[simp] theorem State.writeControl_freeWaiters (p : Port) (w : Word) (s : State) :
    (s.writeControl p w).freeWaiters = s.freeWaiters := rfl
@[simp] theorem State.writeControl_expiryEvents (p : Port) (w : Word) (s : State) :
    (s.writeControl p w).expiryEvents = s.expiryEvents := rfl
@[simp] theorem State.writeControl_waitUnit (p : Port) (w : Word) (s : State) :
    (s.writeControl p w).waitUnit = s.waitUnit := rfl
@[simp] theorem State.writeControl_unitPos (p : Port) (w : Word) (s : State) :
    (s.writeControl p w).unitPos = s.unitPos := rfl
@[simp] theorem State.writeControl_changed (p : Port) (w : Word) (s : State) :
    (s.writeControl p w).changed = s.changed := rfl
@[simp] theorem State.writeControl_lineCounts (p : Port) (w : Word) (s : State) :
    (s.writeControl p w).lineCounts = s.lineCounts := rfl
@[simp] theorem State.writeControl_cursors (p : Port) (w : Word) (s : State) :
    (s.writeControl p w).cursors = s.cursors := rfl
@[simp] theorem State.writeControl_servicePos (p : Port) (w : Word) (s : State) :
    (s.writeControl p w).servicePos = s.servicePos := rfl
@[simp] theorem State.writeControl_condition (p : Port) (w : Word) (s : State) :
    (s.writeControl p w).condition = s.condition := rfl
@[simp] theorem State.writeControl_failedAreas (p : Port) (w : Word) (s : State) :
    (s.writeControl p w).failedAreas = s.failedAreas := rfl
@[simp] theorem State.writeControl_frame (p : Port) (w : Word) (s : State) :
    (s.writeControl p w).frame = s.frame := rfl
@[simp] theorem State.writeControl_clear (p : Port) (w : Word) (s : State) :
    (s.writeControl p w).clear = s.clear := rfl
@[simp] theorem State.writeControl_purgeSlot (p : Port) (w : Word) (s : State) :
    (s.writeControl p w).purgeSlot = s.purgeSlot := rfl
@[simp] theorem State.writeControl_mattnReasons (p : Port) (w : Word) (s : State) :
    (s.writeControl p w).mattnReasons = s.mattnReasons := rfl
@[simp] theorem State.writeControl_mattnMask (p : Port) (w : Word) (s : State) :
    (s.writeControl p w).mattnMask = s.mattnMask := rfl
@[simp] theorem State.writeControl_resetAsserted (p : Port) (w : Word) (s : State) :
    (s.writeControl p w).resetAsserted = s.resetAsserted := rfl
@[simp] theorem State.writeControl_chipSelect (p : Port) (w : Word) (s : State) :
    (s.writeControl p w).chipSelect = s.chipSelect := rfl
@[simp] theorem State.writeControl_sdo (p : Port) (w : Word) (s : State) :
    (s.writeControl p w).sdo = s.sdo := rfl
@[simp] theorem State.writeControl_pending (p : Port) (w : Word) (s : State) :
    (s.writeControl p w).pending = s.pending := rfl
@[simp] theorem State.writeControl_slot (p : Port) (w : Word) (s : State) (j : Slot) :
    (s.writeControl p w).slot j = s.slot j := rfl

/-! ### turnTaken -/

@[simp] theorem State.turnTaken_slots (p : Port) (rest : List Request) (s : State) :
    (s.turnTaken p rest).slots = s.slots := rfl
@[simp] theorem State.turnTaken_freeHoldings (p : Port) (rest : List Request) (s : State) :
    (s.turnTaken p rest).freeHoldings = s.freeHoldings := rfl
@[simp] theorem State.turnTaken_freeWaiters (p : Port) (rest : List Request) (s : State) :
    (s.turnTaken p rest).freeWaiters = s.freeWaiters := rfl
@[simp] theorem State.turnTaken_expiryEvents (p : Port) (rest : List Request) (s : State) :
    (s.turnTaken p rest).expiryEvents = s.expiryEvents := rfl
@[simp] theorem State.turnTaken_waitUnit (p : Port) (rest : List Request) (s : State) :
    (s.turnTaken p rest).waitUnit = s.waitUnit := rfl
@[simp] theorem State.turnTaken_unitPos (p : Port) (rest : List Request) (s : State) :
    (s.turnTaken p rest).unitPos = s.unitPos := rfl
@[simp] theorem State.turnTaken_changed (p : Port) (rest : List Request) (s : State) :
    (s.turnTaken p rest).changed = s.changed := rfl
@[simp] theorem State.turnTaken_lineCounts (p : Port) (rest : List Request) (s : State) :
    (s.turnTaken p rest).lineCounts = s.lineCounts := rfl
@[simp] theorem State.turnTaken_cursors (p : Port) (rest : List Request) (s : State) :
    (s.turnTaken p rest).cursors = s.cursors := rfl
@[simp] theorem State.turnTaken_servicePos (p : Port) (rest : List Request) (s : State) :
    (s.turnTaken p rest).servicePos = s.servicePos := rfl
@[simp] theorem State.turnTaken_condition (p : Port) (rest : List Request) (s : State) :
    (s.turnTaken p rest).condition = s.condition := rfl
@[simp] theorem State.turnTaken_failedAreas (p : Port) (rest : List Request) (s : State) :
    (s.turnTaken p rest).failedAreas = s.failedAreas := rfl
@[simp] theorem State.turnTaken_frame (p : Port) (rest : List Request) (s : State) :
    (s.turnTaken p rest).frame = s.frame := rfl
@[simp] theorem State.turnTaken_clear (p : Port) (rest : List Request) (s : State) :
    (s.turnTaken p rest).clear = s.clear := rfl
@[simp] theorem State.turnTaken_purgeSlot (p : Port) (rest : List Request) (s : State) :
    (s.turnTaken p rest).purgeSlot = s.purgeSlot := rfl
@[simp] theorem State.turnTaken_mattnReasons (p : Port) (rest : List Request) (s : State) :
    (s.turnTaken p rest).mattnReasons = s.mattnReasons := rfl
@[simp] theorem State.turnTaken_mattnMask (p : Port) (rest : List Request) (s : State) :
    (s.turnTaken p rest).mattnMask = s.mattnMask := rfl
@[simp] theorem State.turnTaken_resetAsserted (p : Port) (rest : List Request) (s : State) :
    (s.turnTaken p rest).resetAsserted = s.resetAsserted := rfl
@[simp] theorem State.turnTaken_chipSelect (p : Port) (rest : List Request) (s : State) :
    (s.turnTaken p rest).chipSelect = s.chipSelect := rfl
@[simp] theorem State.turnTaken_sdo (p : Port) (rest : List Request) (s : State) :
    (s.turnTaken p rest).sdo = s.sdo := rfl
@[simp] theorem State.turnTaken_pending (p : Port) (rest : List Request) (s : State) :
    (s.turnTaken p rest).pending = s.pending := rfl
@[simp] theorem State.turnTaken_slot (p : Port) (rest : List Request) (s : State) (j : Slot) :
    (s.turnTaken p rest).slot j = s.slot j := rfl

/-! ### answered -/

@[simp] theorem State.answered_slots (p : Port) (rest : List Request) (r : Response) (s : State) :
    (s.answered p rest r).slots = s.slots := rfl
@[simp] theorem State.answered_freeHoldings (p : Port) (rest : List Request) (r : Response) (s : State) :
    (s.answered p rest r).freeHoldings = s.freeHoldings := rfl
@[simp] theorem State.answered_freeWaiters (p : Port) (rest : List Request) (r : Response) (s : State) :
    (s.answered p rest r).freeWaiters = s.freeWaiters := rfl
@[simp] theorem State.answered_expiryEvents (p : Port) (rest : List Request) (r : Response) (s : State) :
    (s.answered p rest r).expiryEvents = s.expiryEvents := rfl
@[simp] theorem State.answered_waitUnit (p : Port) (rest : List Request) (r : Response) (s : State) :
    (s.answered p rest r).waitUnit = s.waitUnit := rfl
@[simp] theorem State.answered_unitPos (p : Port) (rest : List Request) (r : Response) (s : State) :
    (s.answered p rest r).unitPos = s.unitPos := rfl
@[simp] theorem State.answered_changed (p : Port) (rest : List Request) (r : Response) (s : State) :
    (s.answered p rest r).changed = s.changed := rfl
@[simp] theorem State.answered_lineCounts (p : Port) (rest : List Request) (r : Response) (s : State) :
    (s.answered p rest r).lineCounts = s.lineCounts := rfl
@[simp] theorem State.answered_cursors (p : Port) (rest : List Request) (r : Response) (s : State) :
    (s.answered p rest r).cursors = s.cursors := rfl
@[simp] theorem State.answered_servicePos (p : Port) (rest : List Request) (r : Response) (s : State) :
    (s.answered p rest r).servicePos = s.servicePos := rfl
@[simp] theorem State.answered_condition (p : Port) (rest : List Request) (r : Response) (s : State) :
    (s.answered p rest r).condition = s.condition := rfl
@[simp] theorem State.answered_failedAreas (p : Port) (rest : List Request) (r : Response) (s : State) :
    (s.answered p rest r).failedAreas = s.failedAreas := rfl
@[simp] theorem State.answered_frame (p : Port) (rest : List Request) (r : Response) (s : State) :
    (s.answered p rest r).frame = s.frame := rfl
@[simp] theorem State.answered_clear (p : Port) (rest : List Request) (r : Response) (s : State) :
    (s.answered p rest r).clear = s.clear := rfl
@[simp] theorem State.answered_purgeSlot (p : Port) (rest : List Request) (r : Response) (s : State) :
    (s.answered p rest r).purgeSlot = s.purgeSlot := rfl
@[simp] theorem State.answered_mattnReasons (p : Port) (rest : List Request) (r : Response) (s : State) :
    (s.answered p rest r).mattnReasons = s.mattnReasons := rfl
@[simp] theorem State.answered_mattnMask (p : Port) (rest : List Request) (r : Response) (s : State) :
    (s.answered p rest r).mattnMask = s.mattnMask := rfl
@[simp] theorem State.answered_resetAsserted (p : Port) (rest : List Request) (r : Response) (s : State) :
    (s.answered p rest r).resetAsserted = s.resetAsserted := rfl
@[simp] theorem State.answered_chipSelect (p : Port) (rest : List Request) (r : Response) (s : State) :
    (s.answered p rest r).chipSelect = s.chipSelect := rfl
@[simp] theorem State.answered_sdo (p : Port) (rest : List Request) (r : Response) (s : State) :
    (s.answered p rest r).sdo = s.sdo := rfl
@[simp] theorem State.answered_pending (p : Port) (rest : List Request) (r : Response) (s : State) :
    (s.answered p rest r).pending = s.pending := rfl
@[simp] theorem State.answered_slot (p : Port) (rest : List Request) (r : Response) (s : State) (j : Slot) :
    (s.answered p rest r).slot j = s.slot j := rfl

/-! ### holding -/

@[simp] theorem State.holding_ports (i : Slot) (r : Record) (s : State) :
    (s.holding i r).ports = s.ports := rfl
@[simp] theorem State.holding_rotation (i : Slot) (r : Record) (s : State) :
    (s.holding i r).rotation = s.rotation := rfl
@[simp] theorem State.holding_freeHoldings (i : Slot) (r : Record) (s : State) :
    (s.holding i r).freeHoldings = s.freeHoldings := rfl
@[simp] theorem State.holding_freeWaiters (i : Slot) (r : Record) (s : State) :
    (s.holding i r).freeWaiters = s.freeWaiters := rfl
@[simp] theorem State.holding_expiryEvents (i : Slot) (r : Record) (s : State) :
    (s.holding i r).expiryEvents = s.expiryEvents := rfl
@[simp] theorem State.holding_waitUnit (i : Slot) (r : Record) (s : State) :
    (s.holding i r).waitUnit = s.waitUnit := rfl
@[simp] theorem State.holding_unitPos (i : Slot) (r : Record) (s : State) :
    (s.holding i r).unitPos = s.unitPos := rfl
@[simp] theorem State.holding_changed (i : Slot) (r : Record) (s : State) :
    (s.holding i r).changed = s.changed := rfl
@[simp] theorem State.holding_lineCounts (i : Slot) (r : Record) (s : State) :
    (s.holding i r).lineCounts = s.lineCounts := rfl
@[simp] theorem State.holding_cursors (i : Slot) (r : Record) (s : State) :
    (s.holding i r).cursors = s.cursors := rfl
@[simp] theorem State.holding_servicePos (i : Slot) (r : Record) (s : State) :
    (s.holding i r).servicePos = s.servicePos := rfl
@[simp] theorem State.holding_condition (i : Slot) (r : Record) (s : State) :
    (s.holding i r).condition = s.condition := rfl
@[simp] theorem State.holding_failedAreas (i : Slot) (r : Record) (s : State) :
    (s.holding i r).failedAreas = s.failedAreas := rfl
@[simp] theorem State.holding_frame (i : Slot) (r : Record) (s : State) :
    (s.holding i r).frame = s.frame := rfl
@[simp] theorem State.holding_clear (i : Slot) (r : Record) (s : State) :
    (s.holding i r).clear = s.clear := rfl
@[simp] theorem State.holding_purgeSlot (i : Slot) (r : Record) (s : State) :
    (s.holding i r).purgeSlot = s.purgeSlot := rfl
@[simp] theorem State.holding_mattnReasons (i : Slot) (r : Record) (s : State) :
    (s.holding i r).mattnReasons = s.mattnReasons := rfl
@[simp] theorem State.holding_mattnMask (i : Slot) (r : Record) (s : State) :
    (s.holding i r).mattnMask = s.mattnMask := rfl
@[simp] theorem State.holding_resetAsserted (i : Slot) (r : Record) (s : State) :
    (s.holding i r).resetAsserted = s.resetAsserted := rfl
@[simp] theorem State.holding_chipSelect (i : Slot) (r : Record) (s : State) :
    (s.holding i r).chipSelect = s.chipSelect := rfl
@[simp] theorem State.holding_sdo (i : Slot) (r : Record) (s : State) :
    (s.holding i r).sdo = s.sdo := rfl
@[simp] theorem State.holding_pending (i : Slot) (r : Record) (s : State) :
    (s.holding i r).pending = s.pending := rfl
@[simp] theorem State.holding_port (i : Slot) (r : Record) (s : State) (q : Port) :
    (s.holding i r).port q = s.port q := rfl

/-! ### linkAnswer -/

@[simp] theorem State.linkAnswer_ports (st : LinkStatus) (data : List Byte) (s : State) :
    (s.linkAnswer st data).ports = s.ports := rfl
@[simp] theorem State.linkAnswer_rotation (st : LinkStatus) (data : List Byte) (s : State) :
    (s.linkAnswer st data).rotation = s.rotation := rfl
@[simp] theorem State.linkAnswer_slots (st : LinkStatus) (data : List Byte) (s : State) :
    (s.linkAnswer st data).slots = s.slots := rfl
@[simp] theorem State.linkAnswer_freeHoldings (st : LinkStatus) (data : List Byte) (s : State) :
    (s.linkAnswer st data).freeHoldings = s.freeHoldings := rfl
@[simp] theorem State.linkAnswer_freeWaiters (st : LinkStatus) (data : List Byte) (s : State) :
    (s.linkAnswer st data).freeWaiters = s.freeWaiters := rfl
@[simp] theorem State.linkAnswer_expiryEvents (st : LinkStatus) (data : List Byte) (s : State) :
    (s.linkAnswer st data).expiryEvents = s.expiryEvents := rfl
@[simp] theorem State.linkAnswer_waitUnit (st : LinkStatus) (data : List Byte) (s : State) :
    (s.linkAnswer st data).waitUnit = s.waitUnit := rfl
@[simp] theorem State.linkAnswer_unitPos (st : LinkStatus) (data : List Byte) (s : State) :
    (s.linkAnswer st data).unitPos = s.unitPos := rfl
@[simp] theorem State.linkAnswer_changed (st : LinkStatus) (data : List Byte) (s : State) :
    (s.linkAnswer st data).changed = s.changed := rfl
@[simp] theorem State.linkAnswer_lineCounts (st : LinkStatus) (data : List Byte) (s : State) :
    (s.linkAnswer st data).lineCounts = s.lineCounts := rfl
@[simp] theorem State.linkAnswer_cursors (st : LinkStatus) (data : List Byte) (s : State) :
    (s.linkAnswer st data).cursors = s.cursors := rfl
@[simp] theorem State.linkAnswer_servicePos (st : LinkStatus) (data : List Byte) (s : State) :
    (s.linkAnswer st data).servicePos = s.servicePos := rfl
@[simp] theorem State.linkAnswer_condition (st : LinkStatus) (data : List Byte) (s : State) :
    (s.linkAnswer st data).condition = s.condition := rfl
@[simp] theorem State.linkAnswer_failedAreas (st : LinkStatus) (data : List Byte) (s : State) :
    (s.linkAnswer st data).failedAreas = s.failedAreas := rfl
@[simp] theorem State.linkAnswer_clear (st : LinkStatus) (data : List Byte) (s : State) :
    (s.linkAnswer st data).clear = s.clear := rfl
@[simp] theorem State.linkAnswer_purgeSlot (st : LinkStatus) (data : List Byte) (s : State) :
    (s.linkAnswer st data).purgeSlot = s.purgeSlot := rfl
@[simp] theorem State.linkAnswer_mattnReasons (st : LinkStatus) (data : List Byte) (s : State) :
    (s.linkAnswer st data).mattnReasons = s.mattnReasons := rfl
@[simp] theorem State.linkAnswer_mattnMask (st : LinkStatus) (data : List Byte) (s : State) :
    (s.linkAnswer st data).mattnMask = s.mattnMask := rfl
@[simp] theorem State.linkAnswer_resetAsserted (st : LinkStatus) (data : List Byte) (s : State) :
    (s.linkAnswer st data).resetAsserted = s.resetAsserted := rfl
@[simp] theorem State.linkAnswer_chipSelect (st : LinkStatus) (data : List Byte) (s : State) :
    (s.linkAnswer st data).chipSelect = s.chipSelect := rfl
@[simp] theorem State.linkAnswer_pending (st : LinkStatus) (data : List Byte) (s : State) :
    (s.linkAnswer st data).pending = s.pending := rfl
@[simp] theorem State.linkAnswer_slot (st : LinkStatus) (data : List Byte) (s : State) (j : Slot) :
    (s.linkAnswer st data).slot j = s.slot j := rfl
@[simp] theorem State.linkAnswer_port (st : LinkStatus) (data : List Byte) (s : State) (q : Port) :
    (s.linkAnswer st data).port q = s.port q := rfl

end Sys2Proof.Machine
end

