-- ==== Sys2Proof/Laws/Ops.lean ====
section
/-! SUPPORT. What the shared operations of Machine/Ops.lean do: for each the fields it leaves alone, and its effect on the ones it
changes. -/

namespace Sys2Proof.Machine

/-! ### Ports and slots -/

theorem State.ext_port {q : Port} (s : State) : s.ports[q.val] = s.port q := rfl

theorem State.port_modifyPort (p q : Port) (f : PortState → PortState) (s : State) :
    (s.modifyPort p f).port q = if p = q then f (s.port p) else s.port q := by
  by_cases h : p = q
  · subst h; simp [State.modifyPort, State.port]
  · have : p.val ≠ q.val := fun e => h (Fin.ext e)
    simp [State.modifyPort, State.port, h, this]

@[simp] theorem State.port_modifyPort_self (p : Port) (f : PortState → PortState) (s : State) :
    (s.modifyPort p f).port p = f (s.port p) := by simp [State.port_modifyPort]

theorem State.port_modifyPort_ne {p q : Port} (h : p ≠ q) (f : PortState → PortState) (s : State) :
    (s.modifyPort p f).port q = s.port q := by simp [State.port_modifyPort, h]

theorem State.port_turnTaken (p q : Port) (rest : List Request) (s : State) :
    (s.turnTaken p rest).port q = if p = q then { s.port p with intake := rest } else s.port q :=
  State.port_modifyPort p q (fun u => { u with intake := rest }) s

theorem State.slot_writeSlot (i j : Slot) (x : SlotState) (s : State) :
    (s.writeSlot i x).slot j = if i = j then x else s.slot j := by
  by_cases h : i = j
  · subst h; simp [State.writeSlot, State.slot]
  · have : i.val ≠ j.val := fun e => h (Fin.ext e)
    simp [State.writeSlot, State.slot, h, this]

@[simp] theorem State.slot_writeSlot_self (i : Slot) (x : SlotState) (s : State) : (s.writeSlot i x).slot i = x := by
  simp [State.slot_writeSlot]

theorem State.slot_writeSlot_ne {i j : Slot} (h : i ≠ j) (x : SlotState) (s : State) :
    (s.writeSlot i x).slot j = s.slot j := by simp [State.slot_writeSlot, h]

theorem State.slot_writeRecord (i j : Slot) (r : Record) (s : State) :
    (s.writeRecord i r).slot j = if i = j then ⟨(s.slot i).gen, some r⟩ else s.slot j :=
  State.slot_writeSlot i j _ s

/-- Two states whose slots agree have equal slot arrays. -/
theorem State.slots_ext {s t : State} (h : ∀ i : Slot, s.slot i = t.slot i) : s.slots = t.slots := by
  apply Vector.ext
  intro n hn
  exact h ⟨n, hn⟩

/-- Two states whose ports agree have equal port arrays. -/
theorem State.ports_ext {s t : State} (h : ∀ p : Port, s.port p = t.port p) : s.ports = t.ports := by
  apply Vector.ext
  intro n hn
  exact h ⟨n, hn⟩

@[simp] theorem State.slot_reset (i : Slot) : State.reset.slot i = ⟨0, none⟩ := by
  simp [State.reset, State.slot, SlotState.reset]

@[simp] theorem State.port_reset (p : Port) : State.reset.port p = PortState.reset := by
  simp [State.reset, State.port]

/-! ### Responses -/

theorem State.place_draining {p : Port} {s : State} (h : (s.port p).mode = .draining) (r : Response) : s.place p r = s := by
  simp [State.place, h]

theorem State.place_placed {p : Port} {s : State} (h : (s.port p).mode ≠ .draining) (r : Response) :
    s.place p r = s.modifyPort p fun q => { q with responses := q.responses ++ [r] } := by
  simp [State.place, h]

@[simp] theorem State.placeAll_nil (s : State) : s.placeAll [] = s := rfl

@[simp] theorem State.placeAll_cons (p : Port) (r : Response) (rs : List (Port × Response)) (s : State) :
    s.placeAll ((p, r) :: rs) = (s.place p r).placeAll rs := rfl

theorem State.placeAll_append (as bs : List (Port × Response)) (s : State) :
    s.placeAll (as ++ bs) = (s.placeAll as).placeAll bs := by
  induction as generalizing s with
  | nil => rfl
  | cons a as ih => obtain ⟨p, r⟩ := a; simp [ih]

/-- What one placed response does to a port. -/
theorem State.port_place (p q : Port) (r : Response) (s : State) :
    (s.place p r).port q =
      if p = q ∧ (s.port p).mode ≠ .draining then { s.port q with responses := (s.port q).responses ++ [r] }
      else s.port q := by
  by_cases h : (s.port p).mode = .draining
  · simp [State.place_draining h, h]
  · rw [State.place_placed h, State.port_modifyPort]
    by_cases hp : p = q
    · subst hp; simp [h]
    · simp [hp]

@[simp] theorem State.mode_place (p q : Port) (r : Response) (s : State) :
    ((s.place p r).port q).mode = (s.port q).mode := by
  rw [State.port_place]; split <;> rfl

@[simp] theorem State.mode_placeAll (q : Port) (rs : List (Port × Response)) (s : State) :
    ((s.placeAll rs).port q).mode = (s.port q).mode := by
  induction rs generalizing s with
  | nil => rfl
  | cons a as ih => obtain ⟨p, r⟩ := a; simp [ih]

/-- Whatever is placed, a port is left with its fields but for the tail of its response queue. -/
theorem State.port_placeAll_tail (q : Port) (rs : List (Port × Response)) (s : State) :
    ∃ more, (s.placeAll rs).port q = { s.port q with responses := (s.port q).responses ++ more } := by
  induction rs generalizing s with
  | nil => exact ⟨[], by simp⟩
  | cons a as ih =>
    obtain ⟨p, r⟩ := a
    obtain ⟨more, hm⟩ := ih (s.place p r)
    rw [State.placeAll_cons, hm, State.port_place]
    split
    · exact ⟨r :: more, by simp⟩
    · exact ⟨more, rfl⟩

/-! ### The fields `place` leaves alone -/

@[simp] theorem State.place_rotation (p : Port) (r : Response) (s : State) :
    (s.place p r).rotation = s.rotation := by
  unfold State.place; split <;> rfl
@[simp] theorem State.place_slots (p : Port) (r : Response) (s : State) :
    (s.place p r).slots = s.slots := by
  unfold State.place; split <;> rfl
@[simp] theorem State.place_freeHoldings (p : Port) (r : Response) (s : State) :
    (s.place p r).freeHoldings = s.freeHoldings := by
  unfold State.place; split <;> rfl
@[simp] theorem State.place_freeWaiters (p : Port) (r : Response) (s : State) :
    (s.place p r).freeWaiters = s.freeWaiters := by
  unfold State.place; split <;> rfl
@[simp] theorem State.place_expiryEvents (p : Port) (r : Response) (s : State) :
    (s.place p r).expiryEvents = s.expiryEvents := by
  unfold State.place; split <;> rfl
@[simp] theorem State.place_waitUnit (p : Port) (r : Response) (s : State) :
    (s.place p r).waitUnit = s.waitUnit := by
  unfold State.place; split <;> rfl
@[simp] theorem State.place_unitPos (p : Port) (r : Response) (s : State) :
    (s.place p r).unitPos = s.unitPos := by
  unfold State.place; split <;> rfl
@[simp] theorem State.place_changed (p : Port) (r : Response) (s : State) :
    (s.place p r).changed = s.changed := by
  unfold State.place; split <;> rfl
@[simp] theorem State.place_lineCounts (p : Port) (r : Response) (s : State) :
    (s.place p r).lineCounts = s.lineCounts := by
  unfold State.place; split <;> rfl
@[simp] theorem State.place_cursors (p : Port) (r : Response) (s : State) :
    (s.place p r).cursors = s.cursors := by
  unfold State.place; split <;> rfl
@[simp] theorem State.place_servicePos (p : Port) (r : Response) (s : State) :
    (s.place p r).servicePos = s.servicePos := by
  unfold State.place; split <;> rfl
@[simp] theorem State.place_condition (p : Port) (r : Response) (s : State) :
    (s.place p r).condition = s.condition := by
  unfold State.place; split <;> rfl
@[simp] theorem State.place_failedAreas (p : Port) (r : Response) (s : State) :
    (s.place p r).failedAreas = s.failedAreas := by
  unfold State.place; split <;> rfl
@[simp] theorem State.place_frame (p : Port) (r : Response) (s : State) :
    (s.place p r).frame = s.frame := by
  unfold State.place; split <;> rfl
@[simp] theorem State.place_clear (p : Port) (r : Response) (s : State) :
    (s.place p r).clear = s.clear := by
  unfold State.place; split <;> rfl
@[simp] theorem State.place_purgeSlot (p : Port) (r : Response) (s : State) :
    (s.place p r).purgeSlot = s.purgeSlot := by
  unfold State.place; split <;> rfl
@[simp] theorem State.place_mattnReasons (p : Port) (r : Response) (s : State) :
    (s.place p r).mattnReasons = s.mattnReasons := by
  unfold State.place; split <;> rfl
@[simp] theorem State.place_mattnMask (p : Port) (r : Response) (s : State) :
    (s.place p r).mattnMask = s.mattnMask := by
  unfold State.place; split <;> rfl
@[simp] theorem State.place_resetAsserted (p : Port) (r : Response) (s : State) :
    (s.place p r).resetAsserted = s.resetAsserted := by
  unfold State.place; split <;> rfl
@[simp] theorem State.place_chipSelect (p : Port) (r : Response) (s : State) :
    (s.place p r).chipSelect = s.chipSelect := by
  unfold State.place; split <;> rfl
@[simp] theorem State.place_sdo (p : Port) (r : Response) (s : State) :
    (s.place p r).sdo = s.sdo := by
  unfold State.place; split <;> rfl
@[simp] theorem State.place_pending (p : Port) (r : Response) (s : State) :
    (s.place p r).pending = s.pending := by
  unfold State.place; split <;> rfl
@[simp] theorem State.place_slot (p : Port) (r : Response) (s : State) (j : Slot) :
    (s.place p r).slot j = s.slot j := by
  simp [State.slot]

/-! ### The fields `placeAll` leaves alone -/

@[simp] theorem State.placeAll_rotation (rs : List (Port × Response)) (s : State) :
    (s.placeAll rs).rotation = s.rotation := by
  induction rs generalizing s with
  | nil => rfl
  | cons a as ih => obtain ⟨p, r⟩ := a; simp [ih]
@[simp] theorem State.placeAll_slots (rs : List (Port × Response)) (s : State) :
    (s.placeAll rs).slots = s.slots := by
  induction rs generalizing s with
  | nil => rfl
  | cons a as ih => obtain ⟨p, r⟩ := a; simp [ih]
@[simp] theorem State.placeAll_freeHoldings (rs : List (Port × Response)) (s : State) :
    (s.placeAll rs).freeHoldings = s.freeHoldings := by
  induction rs generalizing s with
  | nil => rfl
  | cons a as ih => obtain ⟨p, r⟩ := a; simp [ih]
@[simp] theorem State.placeAll_freeWaiters (rs : List (Port × Response)) (s : State) :
    (s.placeAll rs).freeWaiters = s.freeWaiters := by
  induction rs generalizing s with
  | nil => rfl
  | cons a as ih => obtain ⟨p, r⟩ := a; simp [ih]
@[simp] theorem State.placeAll_expiryEvents (rs : List (Port × Response)) (s : State) :
    (s.placeAll rs).expiryEvents = s.expiryEvents := by
  induction rs generalizing s with
  | nil => rfl
  | cons a as ih => obtain ⟨p, r⟩ := a; simp [ih]
@[simp] theorem State.placeAll_waitUnit (rs : List (Port × Response)) (s : State) :
    (s.placeAll rs).waitUnit = s.waitUnit := by
  induction rs generalizing s with
  | nil => rfl
  | cons a as ih => obtain ⟨p, r⟩ := a; simp [ih]
@[simp] theorem State.placeAll_unitPos (rs : List (Port × Response)) (s : State) :
    (s.placeAll rs).unitPos = s.unitPos := by
  induction rs generalizing s with
  | nil => rfl
  | cons a as ih => obtain ⟨p, r⟩ := a; simp [ih]
@[simp] theorem State.placeAll_changed (rs : List (Port × Response)) (s : State) :
    (s.placeAll rs).changed = s.changed := by
  induction rs generalizing s with
  | nil => rfl
  | cons a as ih => obtain ⟨p, r⟩ := a; simp [ih]
@[simp] theorem State.placeAll_lineCounts (rs : List (Port × Response)) (s : State) :
    (s.placeAll rs).lineCounts = s.lineCounts := by
  induction rs generalizing s with
  | nil => rfl
  | cons a as ih => obtain ⟨p, r⟩ := a; simp [ih]
@[simp] theorem State.placeAll_cursors (rs : List (Port × Response)) (s : State) :
    (s.placeAll rs).cursors = s.cursors := by
  induction rs generalizing s with
  | nil => rfl
  | cons a as ih => obtain ⟨p, r⟩ := a; simp [ih]
@[simp] theorem State.placeAll_servicePos (rs : List (Port × Response)) (s : State) :
    (s.placeAll rs).servicePos = s.servicePos := by
  induction rs generalizing s with
  | nil => rfl
  | cons a as ih => obtain ⟨p, r⟩ := a; simp [ih]
@[simp] theorem State.placeAll_condition (rs : List (Port × Response)) (s : State) :
    (s.placeAll rs).condition = s.condition := by
  induction rs generalizing s with
  | nil => rfl
  | cons a as ih => obtain ⟨p, r⟩ := a; simp [ih]
@[simp] theorem State.placeAll_failedAreas (rs : List (Port × Response)) (s : State) :
    (s.placeAll rs).failedAreas = s.failedAreas := by
  induction rs generalizing s with
  | nil => rfl
  | cons a as ih => obtain ⟨p, r⟩ := a; simp [ih]
@[simp] theorem State.placeAll_frame (rs : List (Port × Response)) (s : State) :
    (s.placeAll rs).frame = s.frame := by
  induction rs generalizing s with
  | nil => rfl
  | cons a as ih => obtain ⟨p, r⟩ := a; simp [ih]
@[simp] theorem State.placeAll_clear (rs : List (Port × Response)) (s : State) :
    (s.placeAll rs).clear = s.clear := by
  induction rs generalizing s with
  | nil => rfl
  | cons a as ih => obtain ⟨p, r⟩ := a; simp [ih]
@[simp] theorem State.placeAll_purgeSlot (rs : List (Port × Response)) (s : State) :
    (s.placeAll rs).purgeSlot = s.purgeSlot := by
  induction rs generalizing s with
  | nil => rfl
  | cons a as ih => obtain ⟨p, r⟩ := a; simp [ih]
@[simp] theorem State.placeAll_mattnReasons (rs : List (Port × Response)) (s : State) :
    (s.placeAll rs).mattnReasons = s.mattnReasons := by
  induction rs generalizing s with
  | nil => rfl
  | cons a as ih => obtain ⟨p, r⟩ := a; simp [ih]
@[simp] theorem State.placeAll_mattnMask (rs : List (Port × Response)) (s : State) :
    (s.placeAll rs).mattnMask = s.mattnMask := by
  induction rs generalizing s with
  | nil => rfl
  | cons a as ih => obtain ⟨p, r⟩ := a; simp [ih]
@[simp] theorem State.placeAll_resetAsserted (rs : List (Port × Response)) (s : State) :
    (s.placeAll rs).resetAsserted = s.resetAsserted := by
  induction rs generalizing s with
  | nil => rfl
  | cons a as ih => obtain ⟨p, r⟩ := a; simp [ih]
@[simp] theorem State.placeAll_chipSelect (rs : List (Port × Response)) (s : State) :
    (s.placeAll rs).chipSelect = s.chipSelect := by
  induction rs generalizing s with
  | nil => rfl
  | cons a as ih => obtain ⟨p, r⟩ := a; simp [ih]
@[simp] theorem State.placeAll_sdo (rs : List (Port × Response)) (s : State) :
    (s.placeAll rs).sdo = s.sdo := by
  induction rs generalizing s with
  | nil => rfl
  | cons a as ih => obtain ⟨p, r⟩ := a; simp [ih]
@[simp] theorem State.placeAll_pending (rs : List (Port × Response)) (s : State) :
    (s.placeAll rs).pending = s.pending := by
  induction rs generalizing s with
  | nil => rfl
  | cons a as ih => obtain ⟨p, r⟩ := a; simp [ih]
@[simp] theorem State.placeAll_slot (rs : List (Port × Response)) (s : State) (j : Slot) :
    (s.placeAll rs).slot j = s.slot j := by
  simp [State.slot]

/-! ### The fields `reply` leaves alone -/

@[simp] theorem State.reply_rotation (p : Port) (r : Request) (c : ResultCode) (d : List Word) (s : State) :
    (s.reply p r c d).rotation = s.rotation := by
  simp [State.reply]
@[simp] theorem State.reply_slots (p : Port) (r : Request) (c : ResultCode) (d : List Word) (s : State) :
    (s.reply p r c d).slots = s.slots := by
  simp [State.reply]
@[simp] theorem State.reply_freeHoldings (p : Port) (r : Request) (c : ResultCode) (d : List Word) (s : State) :
    (s.reply p r c d).freeHoldings = s.freeHoldings := by
  simp [State.reply]
@[simp] theorem State.reply_freeWaiters (p : Port) (r : Request) (c : ResultCode) (d : List Word) (s : State) :
    (s.reply p r c d).freeWaiters = s.freeWaiters := by
  simp [State.reply]
@[simp] theorem State.reply_expiryEvents (p : Port) (r : Request) (c : ResultCode) (d : List Word) (s : State) :
    (s.reply p r c d).expiryEvents = s.expiryEvents := by
  simp [State.reply]
@[simp] theorem State.reply_waitUnit (p : Port) (r : Request) (c : ResultCode) (d : List Word) (s : State) :
    (s.reply p r c d).waitUnit = s.waitUnit := by
  simp [State.reply]
@[simp] theorem State.reply_unitPos (p : Port) (r : Request) (c : ResultCode) (d : List Word) (s : State) :
    (s.reply p r c d).unitPos = s.unitPos := by
  simp [State.reply]
@[simp] theorem State.reply_changed (p : Port) (r : Request) (c : ResultCode) (d : List Word) (s : State) :
    (s.reply p r c d).changed = s.changed := by
  simp [State.reply]
@[simp] theorem State.reply_lineCounts (p : Port) (r : Request) (c : ResultCode) (d : List Word) (s : State) :
    (s.reply p r c d).lineCounts = s.lineCounts := by
  simp [State.reply]
@[simp] theorem State.reply_cursors (p : Port) (r : Request) (c : ResultCode) (d : List Word) (s : State) :
    (s.reply p r c d).cursors = s.cursors := by
  simp [State.reply]
@[simp] theorem State.reply_servicePos (p : Port) (r : Request) (c : ResultCode) (d : List Word) (s : State) :
    (s.reply p r c d).servicePos = s.servicePos := by
  simp [State.reply]
@[simp] theorem State.reply_condition (p : Port) (r : Request) (c : ResultCode) (d : List Word) (s : State) :
    (s.reply p r c d).condition = s.condition := by
  simp [State.reply]
@[simp] theorem State.reply_failedAreas (p : Port) (r : Request) (c : ResultCode) (d : List Word) (s : State) :
    (s.reply p r c d).failedAreas = s.failedAreas := by
  simp [State.reply]
@[simp] theorem State.reply_frame (p : Port) (r : Request) (c : ResultCode) (d : List Word) (s : State) :
    (s.reply p r c d).frame = s.frame := by
  simp [State.reply]
@[simp] theorem State.reply_clear (p : Port) (r : Request) (c : ResultCode) (d : List Word) (s : State) :
    (s.reply p r c d).clear = s.clear := by
  simp [State.reply]
@[simp] theorem State.reply_purgeSlot (p : Port) (r : Request) (c : ResultCode) (d : List Word) (s : State) :
    (s.reply p r c d).purgeSlot = s.purgeSlot := by
  simp [State.reply]
@[simp] theorem State.reply_mattnReasons (p : Port) (r : Request) (c : ResultCode) (d : List Word) (s : State) :
    (s.reply p r c d).mattnReasons = s.mattnReasons := by
  simp [State.reply]
@[simp] theorem State.reply_mattnMask (p : Port) (r : Request) (c : ResultCode) (d : List Word) (s : State) :
    (s.reply p r c d).mattnMask = s.mattnMask := by
  simp [State.reply]
@[simp] theorem State.reply_resetAsserted (p : Port) (r : Request) (c : ResultCode) (d : List Word) (s : State) :
    (s.reply p r c d).resetAsserted = s.resetAsserted := by
  simp [State.reply]
@[simp] theorem State.reply_chipSelect (p : Port) (r : Request) (c : ResultCode) (d : List Word) (s : State) :
    (s.reply p r c d).chipSelect = s.chipSelect := by
  simp [State.reply]
@[simp] theorem State.reply_sdo (p : Port) (r : Request) (c : ResultCode) (d : List Word) (s : State) :
    (s.reply p r c d).sdo = s.sdo := by
  simp [State.reply]
@[simp] theorem State.reply_pending (p : Port) (r : Request) (c : ResultCode) (d : List Word) (s : State) :
    (s.reply p r c d).pending = s.pending := by
  simp [State.reply]
@[simp] theorem State.reply_slot (p : Port) (r : Request) (c : ResultCode) (d : List Word) (s : State) (j : Slot) :
    (s.reply p r c d).slot j = s.slot j := by
  simp [State.slot]

/-! ### The fields `moveLine` leaves alone -/

@[simp] theorem State.moveLine_ports (l : Option LineAssignment) (a b : Bool) (s : State) :
    (s.moveLine l a b).ports = s.ports := by
  unfold State.moveLine; (repeat' split) <;> rfl
@[simp] theorem State.moveLine_rotation (l : Option LineAssignment) (a b : Bool) (s : State) :
    (s.moveLine l a b).rotation = s.rotation := by
  unfold State.moveLine; (repeat' split) <;> rfl
@[simp] theorem State.moveLine_slots (l : Option LineAssignment) (a b : Bool) (s : State) :
    (s.moveLine l a b).slots = s.slots := by
  unfold State.moveLine; (repeat' split) <;> rfl
@[simp] theorem State.moveLine_freeHoldings (l : Option LineAssignment) (a b : Bool) (s : State) :
    (s.moveLine l a b).freeHoldings = s.freeHoldings := by
  unfold State.moveLine; (repeat' split) <;> rfl
@[simp] theorem State.moveLine_freeWaiters (l : Option LineAssignment) (a b : Bool) (s : State) :
    (s.moveLine l a b).freeWaiters = s.freeWaiters := by
  unfold State.moveLine; (repeat' split) <;> rfl
@[simp] theorem State.moveLine_expiryEvents (l : Option LineAssignment) (a b : Bool) (s : State) :
    (s.moveLine l a b).expiryEvents = s.expiryEvents := by
  unfold State.moveLine; (repeat' split) <;> rfl
@[simp] theorem State.moveLine_waitUnit (l : Option LineAssignment) (a b : Bool) (s : State) :
    (s.moveLine l a b).waitUnit = s.waitUnit := by
  unfold State.moveLine; (repeat' split) <;> rfl
@[simp] theorem State.moveLine_unitPos (l : Option LineAssignment) (a b : Bool) (s : State) :
    (s.moveLine l a b).unitPos = s.unitPos := by
  unfold State.moveLine; (repeat' split) <;> rfl
@[simp] theorem State.moveLine_changed (l : Option LineAssignment) (a b : Bool) (s : State) :
    (s.moveLine l a b).changed = s.changed := by
  unfold State.moveLine; (repeat' split) <;> rfl
@[simp] theorem State.moveLine_cursors (l : Option LineAssignment) (a b : Bool) (s : State) :
    (s.moveLine l a b).cursors = s.cursors := by
  unfold State.moveLine; (repeat' split) <;> rfl
@[simp] theorem State.moveLine_servicePos (l : Option LineAssignment) (a b : Bool) (s : State) :
    (s.moveLine l a b).servicePos = s.servicePos := by
  unfold State.moveLine; (repeat' split) <;> rfl
@[simp] theorem State.moveLine_condition (l : Option LineAssignment) (a b : Bool) (s : State) :
    (s.moveLine l a b).condition = s.condition := by
  unfold State.moveLine; (repeat' split) <;> rfl
@[simp] theorem State.moveLine_failedAreas (l : Option LineAssignment) (a b : Bool) (s : State) :
    (s.moveLine l a b).failedAreas = s.failedAreas := by
  unfold State.moveLine; (repeat' split) <;> rfl
@[simp] theorem State.moveLine_frame (l : Option LineAssignment) (a b : Bool) (s : State) :
    (s.moveLine l a b).frame = s.frame := by
  unfold State.moveLine; (repeat' split) <;> rfl
@[simp] theorem State.moveLine_clear (l : Option LineAssignment) (a b : Bool) (s : State) :
    (s.moveLine l a b).clear = s.clear := by
  unfold State.moveLine; (repeat' split) <;> rfl
@[simp] theorem State.moveLine_purgeSlot (l : Option LineAssignment) (a b : Bool) (s : State) :
    (s.moveLine l a b).purgeSlot = s.purgeSlot := by
  unfold State.moveLine; (repeat' split) <;> rfl
@[simp] theorem State.moveLine_mattnReasons (l : Option LineAssignment) (a b : Bool) (s : State) :
    (s.moveLine l a b).mattnReasons = s.mattnReasons := by
  unfold State.moveLine; (repeat' split) <;> rfl
@[simp] theorem State.moveLine_mattnMask (l : Option LineAssignment) (a b : Bool) (s : State) :
    (s.moveLine l a b).mattnMask = s.mattnMask := by
  unfold State.moveLine; (repeat' split) <;> rfl
@[simp] theorem State.moveLine_resetAsserted (l : Option LineAssignment) (a b : Bool) (s : State) :
    (s.moveLine l a b).resetAsserted = s.resetAsserted := by
  unfold State.moveLine; (repeat' split) <;> rfl
@[simp] theorem State.moveLine_chipSelect (l : Option LineAssignment) (a b : Bool) (s : State) :
    (s.moveLine l a b).chipSelect = s.chipSelect := by
  unfold State.moveLine; (repeat' split) <;> rfl
@[simp] theorem State.moveLine_sdo (l : Option LineAssignment) (a b : Bool) (s : State) :
    (s.moveLine l a b).sdo = s.sdo := by
  unfold State.moveLine; (repeat' split) <;> rfl
@[simp] theorem State.moveLine_pending (l : Option LineAssignment) (a b : Bool) (s : State) :
    (s.moveLine l a b).pending = s.pending := by
  unfold State.moveLine; (repeat' split) <;> rfl
@[simp] theorem State.moveLine_slot (l : Option LineAssignment) (a b : Bool) (s : State) (j : Slot) :
    (s.moveLine l a b).slot j = s.slot j := by
  simp [State.slot]
@[simp] theorem State.moveLine_port (l : Option LineAssignment) (a b : Bool) (s : State) (q : Port) :
    (s.moveLine l a b).port q = s.port q := by
  simp [State.port]

/-! ### The fields `withdrawLine` leaves alone -/

@[simp] theorem State.withdrawLine_ports (l : Option LineAssignment) (a : Bool) (s : State) :
    (s.withdrawLine l a).ports = s.ports := by
  unfold State.withdrawLine; (repeat' split) <;> rfl
@[simp] theorem State.withdrawLine_rotation (l : Option LineAssignment) (a : Bool) (s : State) :
    (s.withdrawLine l a).rotation = s.rotation := by
  unfold State.withdrawLine; (repeat' split) <;> rfl
@[simp] theorem State.withdrawLine_slots (l : Option LineAssignment) (a : Bool) (s : State) :
    (s.withdrawLine l a).slots = s.slots := by
  unfold State.withdrawLine; (repeat' split) <;> rfl
@[simp] theorem State.withdrawLine_freeHoldings (l : Option LineAssignment) (a : Bool) (s : State) :
    (s.withdrawLine l a).freeHoldings = s.freeHoldings := by
  unfold State.withdrawLine; (repeat' split) <;> rfl
@[simp] theorem State.withdrawLine_freeWaiters (l : Option LineAssignment) (a : Bool) (s : State) :
    (s.withdrawLine l a).freeWaiters = s.freeWaiters := by
  unfold State.withdrawLine; (repeat' split) <;> rfl
@[simp] theorem State.withdrawLine_expiryEvents (l : Option LineAssignment) (a : Bool) (s : State) :
    (s.withdrawLine l a).expiryEvents = s.expiryEvents := by
  unfold State.withdrawLine; (repeat' split) <;> rfl
@[simp] theorem State.withdrawLine_waitUnit (l : Option LineAssignment) (a : Bool) (s : State) :
    (s.withdrawLine l a).waitUnit = s.waitUnit := by
  unfold State.withdrawLine; (repeat' split) <;> rfl
@[simp] theorem State.withdrawLine_unitPos (l : Option LineAssignment) (a : Bool) (s : State) :
    (s.withdrawLine l a).unitPos = s.unitPos := by
  unfold State.withdrawLine; (repeat' split) <;> rfl
@[simp] theorem State.withdrawLine_changed (l : Option LineAssignment) (a : Bool) (s : State) :
    (s.withdrawLine l a).changed = s.changed := by
  unfold State.withdrawLine; (repeat' split) <;> rfl
@[simp] theorem State.withdrawLine_cursors (l : Option LineAssignment) (a : Bool) (s : State) :
    (s.withdrawLine l a).cursors = s.cursors := by
  unfold State.withdrawLine; (repeat' split) <;> rfl
@[simp] theorem State.withdrawLine_servicePos (l : Option LineAssignment) (a : Bool) (s : State) :
    (s.withdrawLine l a).servicePos = s.servicePos := by
  unfold State.withdrawLine; (repeat' split) <;> rfl
@[simp] theorem State.withdrawLine_condition (l : Option LineAssignment) (a : Bool) (s : State) :
    (s.withdrawLine l a).condition = s.condition := by
  unfold State.withdrawLine; (repeat' split) <;> rfl
@[simp] theorem State.withdrawLine_failedAreas (l : Option LineAssignment) (a : Bool) (s : State) :
    (s.withdrawLine l a).failedAreas = s.failedAreas := by
  unfold State.withdrawLine; (repeat' split) <;> rfl
@[simp] theorem State.withdrawLine_frame (l : Option LineAssignment) (a : Bool) (s : State) :
    (s.withdrawLine l a).frame = s.frame := by
  unfold State.withdrawLine; (repeat' split) <;> rfl
@[simp] theorem State.withdrawLine_clear (l : Option LineAssignment) (a : Bool) (s : State) :
    (s.withdrawLine l a).clear = s.clear := by
  unfold State.withdrawLine; (repeat' split) <;> rfl
@[simp] theorem State.withdrawLine_purgeSlot (l : Option LineAssignment) (a : Bool) (s : State) :
    (s.withdrawLine l a).purgeSlot = s.purgeSlot := by
  unfold State.withdrawLine; (repeat' split) <;> rfl
@[simp] theorem State.withdrawLine_mattnReasons (l : Option LineAssignment) (a : Bool) (s : State) :
    (s.withdrawLine l a).mattnReasons = s.mattnReasons := by
  unfold State.withdrawLine; (repeat' split) <;> rfl
@[simp] theorem State.withdrawLine_mattnMask (l : Option LineAssignment) (a : Bool) (s : State) :
    (s.withdrawLine l a).mattnMask = s.mattnMask := by
  unfold State.withdrawLine; (repeat' split) <;> rfl
@[simp] theorem State.withdrawLine_resetAsserted (l : Option LineAssignment) (a : Bool) (s : State) :
    (s.withdrawLine l a).resetAsserted = s.resetAsserted := by
  unfold State.withdrawLine; (repeat' split) <;> rfl
@[simp] theorem State.withdrawLine_chipSelect (l : Option LineAssignment) (a : Bool) (s : State) :
    (s.withdrawLine l a).chipSelect = s.chipSelect := by
  unfold State.withdrawLine; (repeat' split) <;> rfl
@[simp] theorem State.withdrawLine_sdo (l : Option LineAssignment) (a : Bool) (s : State) :
    (s.withdrawLine l a).sdo = s.sdo := by
  unfold State.withdrawLine; (repeat' split) <;> rfl
@[simp] theorem State.withdrawLine_pending (l : Option LineAssignment) (a : Bool) (s : State) :
    (s.withdrawLine l a).pending = s.pending := by
  unfold State.withdrawLine; (repeat' split) <;> rfl
@[simp] theorem State.withdrawLine_slot (l : Option LineAssignment) (a : Bool) (s : State) (j : Slot) :
    (s.withdrawLine l a).slot j = s.slot j := by
  simp [State.slot]
@[simp] theorem State.withdrawLine_port (l : Option LineAssignment) (a : Bool) (s : State) (q : Port) :
    (s.withdrawLine l a).port q = s.port q := by
  simp [State.port]

/-! ### The fields `enterLine` leaves alone -/

@[simp] theorem State.enterLine_ports (l : Option LineAssignment) (a : Bool) (s : State) :
    (s.enterLine l a).ports = s.ports := by
  unfold State.enterLine; (repeat' split) <;> rfl
@[simp] theorem State.enterLine_rotation (l : Option LineAssignment) (a : Bool) (s : State) :
    (s.enterLine l a).rotation = s.rotation := by
  unfold State.enterLine; (repeat' split) <;> rfl
@[simp] theorem State.enterLine_slots (l : Option LineAssignment) (a : Bool) (s : State) :
    (s.enterLine l a).slots = s.slots := by
  unfold State.enterLine; (repeat' split) <;> rfl
@[simp] theorem State.enterLine_freeHoldings (l : Option LineAssignment) (a : Bool) (s : State) :
    (s.enterLine l a).freeHoldings = s.freeHoldings := by
  unfold State.enterLine; (repeat' split) <;> rfl
@[simp] theorem State.enterLine_freeWaiters (l : Option LineAssignment) (a : Bool) (s : State) :
    (s.enterLine l a).freeWaiters = s.freeWaiters := by
  unfold State.enterLine; (repeat' split) <;> rfl
@[simp] theorem State.enterLine_expiryEvents (l : Option LineAssignment) (a : Bool) (s : State) :
    (s.enterLine l a).expiryEvents = s.expiryEvents := by
  unfold State.enterLine; (repeat' split) <;> rfl
@[simp] theorem State.enterLine_waitUnit (l : Option LineAssignment) (a : Bool) (s : State) :
    (s.enterLine l a).waitUnit = s.waitUnit := by
  unfold State.enterLine; (repeat' split) <;> rfl
@[simp] theorem State.enterLine_unitPos (l : Option LineAssignment) (a : Bool) (s : State) :
    (s.enterLine l a).unitPos = s.unitPos := by
  unfold State.enterLine; (repeat' split) <;> rfl
@[simp] theorem State.enterLine_changed (l : Option LineAssignment) (a : Bool) (s : State) :
    (s.enterLine l a).changed = s.changed := by
  unfold State.enterLine; (repeat' split) <;> rfl
@[simp] theorem State.enterLine_cursors (l : Option LineAssignment) (a : Bool) (s : State) :
    (s.enterLine l a).cursors = s.cursors := by
  unfold State.enterLine; (repeat' split) <;> rfl
@[simp] theorem State.enterLine_servicePos (l : Option LineAssignment) (a : Bool) (s : State) :
    (s.enterLine l a).servicePos = s.servicePos := by
  unfold State.enterLine; (repeat' split) <;> rfl
@[simp] theorem State.enterLine_condition (l : Option LineAssignment) (a : Bool) (s : State) :
    (s.enterLine l a).condition = s.condition := by
  unfold State.enterLine; (repeat' split) <;> rfl
@[simp] theorem State.enterLine_failedAreas (l : Option LineAssignment) (a : Bool) (s : State) :
    (s.enterLine l a).failedAreas = s.failedAreas := by
  unfold State.enterLine; (repeat' split) <;> rfl
@[simp] theorem State.enterLine_frame (l : Option LineAssignment) (a : Bool) (s : State) :
    (s.enterLine l a).frame = s.frame := by
  unfold State.enterLine; (repeat' split) <;> rfl
@[simp] theorem State.enterLine_clear (l : Option LineAssignment) (a : Bool) (s : State) :
    (s.enterLine l a).clear = s.clear := by
  unfold State.enterLine; (repeat' split) <;> rfl
@[simp] theorem State.enterLine_purgeSlot (l : Option LineAssignment) (a : Bool) (s : State) :
    (s.enterLine l a).purgeSlot = s.purgeSlot := by
  unfold State.enterLine; (repeat' split) <;> rfl
@[simp] theorem State.enterLine_mattnReasons (l : Option LineAssignment) (a : Bool) (s : State) :
    (s.enterLine l a).mattnReasons = s.mattnReasons := by
  unfold State.enterLine; (repeat' split) <;> rfl
@[simp] theorem State.enterLine_mattnMask (l : Option LineAssignment) (a : Bool) (s : State) :
    (s.enterLine l a).mattnMask = s.mattnMask := by
  unfold State.enterLine; (repeat' split) <;> rfl
@[simp] theorem State.enterLine_resetAsserted (l : Option LineAssignment) (a : Bool) (s : State) :
    (s.enterLine l a).resetAsserted = s.resetAsserted := by
  unfold State.enterLine; (repeat' split) <;> rfl
@[simp] theorem State.enterLine_chipSelect (l : Option LineAssignment) (a : Bool) (s : State) :
    (s.enterLine l a).chipSelect = s.chipSelect := by
  unfold State.enterLine; (repeat' split) <;> rfl
@[simp] theorem State.enterLine_sdo (l : Option LineAssignment) (a : Bool) (s : State) :
    (s.enterLine l a).sdo = s.sdo := by
  unfold State.enterLine; (repeat' split) <;> rfl
@[simp] theorem State.enterLine_pending (l : Option LineAssignment) (a : Bool) (s : State) :
    (s.enterLine l a).pending = s.pending := by
  unfold State.enterLine; (repeat' split) <;> rfl
@[simp] theorem State.enterLine_slot (l : Option LineAssignment) (a : Bool) (s : State) (j : Slot) :
    (s.enterLine l a).slot j = s.slot j := by
  simp [State.slot]
@[simp] theorem State.enterLine_port (l : Option LineAssignment) (a : Bool) (s : State) (q : Port) :
    (s.enterLine l a).port q = s.port q := by
  simp [State.port]

/-! ### The fields `updateRecord` leaves alone -/

@[simp] theorem State.updateRecord_ports (i : Slot) (r0 r1 : Record) (s : State) :
    (s.updateRecord i r0 r1).ports = s.ports := by
  unfold State.updateRecord; dsimp only; split <;> simp
@[simp] theorem State.updateRecord_rotation (i : Slot) (r0 r1 : Record) (s : State) :
    (s.updateRecord i r0 r1).rotation = s.rotation := by
  unfold State.updateRecord; dsimp only; split <;> simp
@[simp] theorem State.updateRecord_expiryEvents (i : Slot) (r0 r1 : Record) (s : State) :
    (s.updateRecord i r0 r1).expiryEvents = s.expiryEvents := by
  unfold State.updateRecord; dsimp only; split <;> simp
@[simp] theorem State.updateRecord_waitUnit (i : Slot) (r0 r1 : Record) (s : State) :
    (s.updateRecord i r0 r1).waitUnit = s.waitUnit := by
  unfold State.updateRecord; dsimp only; split <;> simp
@[simp] theorem State.updateRecord_unitPos (i : Slot) (r0 r1 : Record) (s : State) :
    (s.updateRecord i r0 r1).unitPos = s.unitPos := by
  unfold State.updateRecord; dsimp only; split <;> simp
@[simp] theorem State.updateRecord_cursors (i : Slot) (r0 r1 : Record) (s : State) :
    (s.updateRecord i r0 r1).cursors = s.cursors := by
  unfold State.updateRecord; dsimp only; split <;> simp
@[simp] theorem State.updateRecord_servicePos (i : Slot) (r0 r1 : Record) (s : State) :
    (s.updateRecord i r0 r1).servicePos = s.servicePos := by
  unfold State.updateRecord; dsimp only; split <;> simp
@[simp] theorem State.updateRecord_condition (i : Slot) (r0 r1 : Record) (s : State) :
    (s.updateRecord i r0 r1).condition = s.condition := by
  unfold State.updateRecord; dsimp only; split <;> simp
@[simp] theorem State.updateRecord_failedAreas (i : Slot) (r0 r1 : Record) (s : State) :
    (s.updateRecord i r0 r1).failedAreas = s.failedAreas := by
  unfold State.updateRecord; dsimp only; split <;> simp
@[simp] theorem State.updateRecord_frame (i : Slot) (r0 r1 : Record) (s : State) :
    (s.updateRecord i r0 r1).frame = s.frame := by
  unfold State.updateRecord; dsimp only; split <;> simp
@[simp] theorem State.updateRecord_clear (i : Slot) (r0 r1 : Record) (s : State) :
    (s.updateRecord i r0 r1).clear = s.clear := by
  unfold State.updateRecord; dsimp only; split <;> simp
@[simp] theorem State.updateRecord_purgeSlot (i : Slot) (r0 r1 : Record) (s : State) :
    (s.updateRecord i r0 r1).purgeSlot = s.purgeSlot := by
  unfold State.updateRecord; dsimp only; split <;> simp
@[simp] theorem State.updateRecord_mattnReasons (i : Slot) (r0 r1 : Record) (s : State) :
    (s.updateRecord i r0 r1).mattnReasons = s.mattnReasons := by
  unfold State.updateRecord; dsimp only; split <;> simp
@[simp] theorem State.updateRecord_mattnMask (i : Slot) (r0 r1 : Record) (s : State) :
    (s.updateRecord i r0 r1).mattnMask = s.mattnMask := by
  unfold State.updateRecord; dsimp only; split <;> simp
@[simp] theorem State.updateRecord_resetAsserted (i : Slot) (r0 r1 : Record) (s : State) :
    (s.updateRecord i r0 r1).resetAsserted = s.resetAsserted := by
  unfold State.updateRecord; dsimp only; split <;> simp
@[simp] theorem State.updateRecord_chipSelect (i : Slot) (r0 r1 : Record) (s : State) :
    (s.updateRecord i r0 r1).chipSelect = s.chipSelect := by
  unfold State.updateRecord; dsimp only; split <;> simp
@[simp] theorem State.updateRecord_sdo (i : Slot) (r0 r1 : Record) (s : State) :
    (s.updateRecord i r0 r1).sdo = s.sdo := by
  unfold State.updateRecord; dsimp only; split <;> simp
@[simp] theorem State.updateRecord_pending (i : Slot) (r0 r1 : Record) (s : State) :
    (s.updateRecord i r0 r1).pending = s.pending := by
  unfold State.updateRecord; dsimp only; split <;> simp
@[simp] theorem State.updateRecord_port (i : Slot) (r0 r1 : Record) (s : State) (q : Port) :
    (s.updateRecord i r0 r1).port q = s.port q := by
  simp [State.port]

/-! ### The fields `emptySlot` leaves alone -/

@[simp] theorem State.emptySlot_rotation (i : Slot) (r0 r1 : Record) (c : ResultCode) (s : State) :
    (s.emptySlot i r0 r1 c).rotation = s.rotation := by
  simp [State.emptySlot]
@[simp] theorem State.emptySlot_expiryEvents (i : Slot) (r0 r1 : Record) (c : ResultCode) (s : State) :
    (s.emptySlot i r0 r1 c).expiryEvents = s.expiryEvents := by
  simp [State.emptySlot]
@[simp] theorem State.emptySlot_waitUnit (i : Slot) (r0 r1 : Record) (c : ResultCode) (s : State) :
    (s.emptySlot i r0 r1 c).waitUnit = s.waitUnit := by
  simp [State.emptySlot]
@[simp] theorem State.emptySlot_unitPos (i : Slot) (r0 r1 : Record) (c : ResultCode) (s : State) :
    (s.emptySlot i r0 r1 c).unitPos = s.unitPos := by
  simp [State.emptySlot]
@[simp] theorem State.emptySlot_cursors (i : Slot) (r0 r1 : Record) (c : ResultCode) (s : State) :
    (s.emptySlot i r0 r1 c).cursors = s.cursors := by
  simp [State.emptySlot]
@[simp] theorem State.emptySlot_servicePos (i : Slot) (r0 r1 : Record) (c : ResultCode) (s : State) :
    (s.emptySlot i r0 r1 c).servicePos = s.servicePos := by
  simp [State.emptySlot]
@[simp] theorem State.emptySlot_condition (i : Slot) (r0 r1 : Record) (c : ResultCode) (s : State) :
    (s.emptySlot i r0 r1 c).condition = s.condition := by
  simp [State.emptySlot]
@[simp] theorem State.emptySlot_failedAreas (i : Slot) (r0 r1 : Record) (c : ResultCode) (s : State) :
    (s.emptySlot i r0 r1 c).failedAreas = s.failedAreas := by
  simp [State.emptySlot]
@[simp] theorem State.emptySlot_frame (i : Slot) (r0 r1 : Record) (c : ResultCode) (s : State) :
    (s.emptySlot i r0 r1 c).frame = s.frame := by
  simp [State.emptySlot]
@[simp] theorem State.emptySlot_clear (i : Slot) (r0 r1 : Record) (c : ResultCode) (s : State) :
    (s.emptySlot i r0 r1 c).clear = s.clear := by
  simp [State.emptySlot]
@[simp] theorem State.emptySlot_purgeSlot (i : Slot) (r0 r1 : Record) (c : ResultCode) (s : State) :
    (s.emptySlot i r0 r1 c).purgeSlot = s.purgeSlot := by
  simp [State.emptySlot]
@[simp] theorem State.emptySlot_mattnReasons (i : Slot) (r0 r1 : Record) (c : ResultCode) (s : State) :
    (s.emptySlot i r0 r1 c).mattnReasons = s.mattnReasons := by
  simp [State.emptySlot]
@[simp] theorem State.emptySlot_mattnMask (i : Slot) (r0 r1 : Record) (c : ResultCode) (s : State) :
    (s.emptySlot i r0 r1 c).mattnMask = s.mattnMask := by
  simp [State.emptySlot]
@[simp] theorem State.emptySlot_resetAsserted (i : Slot) (r0 r1 : Record) (c : ResultCode) (s : State) :
    (s.emptySlot i r0 r1 c).resetAsserted = s.resetAsserted := by
  simp [State.emptySlot]
@[simp] theorem State.emptySlot_chipSelect (i : Slot) (r0 r1 : Record) (c : ResultCode) (s : State) :
    (s.emptySlot i r0 r1 c).chipSelect = s.chipSelect := by
  simp [State.emptySlot]
@[simp] theorem State.emptySlot_sdo (i : Slot) (r0 r1 : Record) (c : ResultCode) (s : State) :
    (s.emptySlot i r0 r1 c).sdo = s.sdo := by
  simp [State.emptySlot]
@[simp] theorem State.emptySlot_pending (i : Slot) (r0 r1 : Record) (c : ResultCode) (s : State) :
    (s.emptySlot i r0 r1 c).pending = s.pending := by
  simp [State.emptySlot]

/-! ### The fields `finishEvent` leaves alone -/

@[simp] theorem State.finishEvent_rotation (i : Slot) (r0 r1 : Record) (rs : List (Port × Response)) (s : State) :
    (s.finishEvent i r0 r1 rs).rotation = s.rotation := by
  unfold State.finishEvent; dsimp only; split <;> simp
@[simp] theorem State.finishEvent_expiryEvents (i : Slot) (r0 r1 : Record) (rs : List (Port × Response)) (s : State) :
    (s.finishEvent i r0 r1 rs).expiryEvents = s.expiryEvents := by
  unfold State.finishEvent; dsimp only; split <;> simp
@[simp] theorem State.finishEvent_waitUnit (i : Slot) (r0 r1 : Record) (rs : List (Port × Response)) (s : State) :
    (s.finishEvent i r0 r1 rs).waitUnit = s.waitUnit := by
  unfold State.finishEvent; dsimp only; split <;> simp
@[simp] theorem State.finishEvent_unitPos (i : Slot) (r0 r1 : Record) (rs : List (Port × Response)) (s : State) :
    (s.finishEvent i r0 r1 rs).unitPos = s.unitPos := by
  unfold State.finishEvent; dsimp only; split <;> simp
@[simp] theorem State.finishEvent_cursors (i : Slot) (r0 r1 : Record) (rs : List (Port × Response)) (s : State) :
    (s.finishEvent i r0 r1 rs).cursors = s.cursors := by
  unfold State.finishEvent; dsimp only; split <;> simp
@[simp] theorem State.finishEvent_servicePos (i : Slot) (r0 r1 : Record) (rs : List (Port × Response)) (s : State) :
    (s.finishEvent i r0 r1 rs).servicePos = s.servicePos := by
  unfold State.finishEvent; dsimp only; split <;> simp
@[simp] theorem State.finishEvent_condition (i : Slot) (r0 r1 : Record) (rs : List (Port × Response)) (s : State) :
    (s.finishEvent i r0 r1 rs).condition = s.condition := by
  unfold State.finishEvent; dsimp only; split <;> simp
@[simp] theorem State.finishEvent_failedAreas (i : Slot) (r0 r1 : Record) (rs : List (Port × Response)) (s : State) :
    (s.finishEvent i r0 r1 rs).failedAreas = s.failedAreas := by
  unfold State.finishEvent; dsimp only; split <;> simp
@[simp] theorem State.finishEvent_frame (i : Slot) (r0 r1 : Record) (rs : List (Port × Response)) (s : State) :
    (s.finishEvent i r0 r1 rs).frame = s.frame := by
  unfold State.finishEvent; dsimp only; split <;> simp
@[simp] theorem State.finishEvent_clear (i : Slot) (r0 r1 : Record) (rs : List (Port × Response)) (s : State) :
    (s.finishEvent i r0 r1 rs).clear = s.clear := by
  unfold State.finishEvent; dsimp only; split <;> simp
@[simp] theorem State.finishEvent_purgeSlot (i : Slot) (r0 r1 : Record) (rs : List (Port × Response)) (s : State) :
    (s.finishEvent i r0 r1 rs).purgeSlot = s.purgeSlot := by
  unfold State.finishEvent; dsimp only; split <;> simp
@[simp] theorem State.finishEvent_mattnReasons (i : Slot) (r0 r1 : Record) (rs : List (Port × Response)) (s : State) :
    (s.finishEvent i r0 r1 rs).mattnReasons = s.mattnReasons := by
  unfold State.finishEvent; dsimp only; split <;> simp
@[simp] theorem State.finishEvent_mattnMask (i : Slot) (r0 r1 : Record) (rs : List (Port × Response)) (s : State) :
    (s.finishEvent i r0 r1 rs).mattnMask = s.mattnMask := by
  unfold State.finishEvent; dsimp only; split <;> simp
@[simp] theorem State.finishEvent_resetAsserted (i : Slot) (r0 r1 : Record) (rs : List (Port × Response)) (s : State) :
    (s.finishEvent i r0 r1 rs).resetAsserted = s.resetAsserted := by
  unfold State.finishEvent; dsimp only; split <;> simp
@[simp] theorem State.finishEvent_chipSelect (i : Slot) (r0 r1 : Record) (rs : List (Port × Response)) (s : State) :
    (s.finishEvent i r0 r1 rs).chipSelect = s.chipSelect := by
  unfold State.finishEvent; dsimp only; split <;> simp
@[simp] theorem State.finishEvent_sdo (i : Slot) (r0 r1 : Record) (rs : List (Port × Response)) (s : State) :
    (s.finishEvent i r0 r1 rs).sdo = s.sdo := by
  unfold State.finishEvent; dsimp only; split <;> simp
@[simp] theorem State.finishEvent_pending (i : Slot) (r0 r1 : Record) (rs : List (Port × Response)) (s : State) :
    (s.finishEvent i r0 r1 rs).pending = s.pending := by
  unfold State.finishEvent; dsimp only; split <;> simp

/-! ### The end of an event, slot by slot -/

/-- The slot of an event that leaves its record standing. -/
theorem State.slot_updateRecord (i j : Slot) (r0 r1 : Record) (s : State) :
    (s.updateRecord i r0 r1).slot j = if i = j then ⟨(s.slot i).gen, some r1⟩ else s.slot j := by
  unfold State.updateRecord
  dsimp only
  split
  · simp [State.slot_writeRecord]
  · simp [State.slot_writeRecord]

/-- The slot of an event that empties it. -/
theorem State.slot_emptySlot (i j : Slot) (r0 r1 : Record) (c : ResultCode) (s : State) :
    (s.emptySlot i r0 r1 c).slot j = if i = j then ⟨(s.slot i).gen + 1, none⟩ else s.slot j := by
  unfold State.emptySlot
  simp [State.slot_writeSlot]

/-- The end of an event either lets the record stand as it left it, or, with the last commitment of a CLOSING record gone,
empties the slot. -/
theorem State.slot_finishEvent (i j : Slot) (r0 r1 : Record) (rs : List (Port × Response)) (s : State) :
    (s.finishEvent i r0 r1 rs).slot j =
      if i = j then (if drains r0 r1 then ⟨(s.slot i).gen + 1, none⟩ else ⟨(s.slot i).gen, some r1⟩) else s.slot j := by
  unfold State.finishEvent
  dsimp only
  split
  · rw [State.slot_emptySlot]; simp [*]
  · rw [State.slot_updateRecord]; simp [*]

theorem State.slot_finishEvent_ne {i j : Slot} (h : i ≠ j) (r0 r1 : Record) (rs : List (Port × Response)) (s : State) :
    (s.finishEvent i r0 r1 rs).slot j = s.slot j := by simp [State.slot_finishEvent, h]

/-- A record in a slot after the end of an event: it is the event's, or that of another slot. -/
theorem State.record_finishEvent {i j : Slot} {r0 r1 r : Record} {rs : List (Port × Response)} {s : State}
    (h : ((s.finishEvent i r0 r1 rs).slot j).record = some r) :
    (j = i ∧ r = r1 ∧ drains r0 r1 = false) ∨ (j ≠ i ∧ (s.slot j).record = some r) := by
  rw [State.slot_finishEvent] at h
  by_cases hij : i = j
  · subst hij
    by_cases hd : drains r0 r1 = true
    · simp [hd] at h
    · simp [hd] at h; exact .inl ⟨rfl, h.symm, by simpa using hd⟩
  · simp [hij] at h; exact .inr ⟨fun e => hij e.symm, h⟩

/-- Whatever ends on whatever record, a port is left with its fields but for the tail of its response queue. -/
theorem State.port_finishEvent_tail (q : Port) (i : Slot) (r0 r1 : Record) (rs : List (Port × Response)) (s : State) :
    ∃ more, (s.finishEvent i r0 r1 rs).port q = { s.port q with responses := (s.port q).responses ++ more } := by
  unfold State.finishEvent
  dsimp only
  split
  · obtain ⟨m1, h1⟩ := State.port_placeAll_tail q rs s
    obtain ⟨m2, h2⟩ := State.port_placeAll_tail q (closedResponses r1.body) (s.placeAll rs)
    obtain ⟨m3, h3⟩ := State.port_placeAll_tail q (heldResponse r1.held .done)
      ((s.placeAll rs).placeAll (closedResponses r1.body))
    refine ⟨m1 ++ m2 ++ m3, ?_⟩
    have : ∀ t : State, ((t.emptySlot i r0 r1 .done).port q) =
        ((t.placeAll (closedResponses r1.body)).placeAll (heldResponse r1.held .done)).port q := by
      intro t; simp [State.emptySlot]
    rw [this, h3, h2, h1]
    simp
  · obtain ⟨m1, h1⟩ := State.port_placeAll_tail q rs s
    exact ⟨m1, by simpa using h1⟩

/-! ### The turn -/

/-- At its turn a port's request is taken by its rule, in the state the turn leaves. -/
theorem State.onTurn_atTurn {s : State} {p : Port} {c : ReqCode} {r : Request} {rest : List Request}
    (h : s.atTurn p c r rest) (take : Port → Request → State → State) :
    s.onTurn p c take = take p r (s.turnTaken p rest) := by
  obtain ⟨h1, h2, h3⟩ := h
  unfold State.onTurn
  rw [h2]
  simp only [h1, h3, and_self, if_true]
  rfl

/-- Without its turn nothing is taken. -/
theorem State.onTurn_not {s : State} {p : Port} {c : ReqCode} (h : ∀ r rest, ¬s.atTurn p c r rest)
    (take : Port → Request → State → State) : s.onTurn p c take = s := by
  unfold State.onTurn
  split
  · rfl
  · rename_i r rest he
    split
    · rename_i hc; exact absurd ⟨hc.1, he, hc.2⟩ (h r rest)
    · rfl

/-- A port at its turn is ONLINE. -/
theorem State.atTurn_online {s : State} {p : Port} {c : ReqCode} {r : Request} {rest : List Request}
    (h : s.atTurn p c r rest) : (s.port p).mode = .online := by
  have h1 := h.1
  unfold State.turn at h1
  split at h1
  · have := List.find?_some h1
    simp [State.eligible] at this
    exact this.1
  · cases h1

/-- A turn is given in service alone, with no CLEAR-TABLE in progress. -/
theorem State.inService_of_turn {s : State} {c : Claimant} (h : s.turn = some c) : s.inService ∧ s.clear = none := by
  unfold State.turn at h
  split at h
  · rename_i hg
    simp [State.givesTurns] at hg
    exact ⟨⟨hg.1.1, hg.1.2⟩, hg.2⟩
  · cases h

@[simp] theorem State.turnTaken_mode (p q : Port) (rest : List Request) (s : State) :
    ((s.turnTaken p rest).port q).mode = (s.port q).mode := by
  rw [State.port_turnTaken]
  split
  · rename_i h; subst h; rfl
  · rfl

/-- At its turn a port is not DRAINING, so a reply is the answer that joins its queue. -/
theorem State.reply_turnTaken {s : State} {p : Port} {c : ReqCode} {r : Request} {rest : List Request}
    (h : s.atTurn p c r rest) (result : ResultCode) (data : List Word) :
    (s.turnTaken p rest).reply p r result data = s.answered p rest ⟨r.tag, result, data⟩ := by
  have hm := State.atTurn_online h
  unfold State.reply
  rw [State.place_placed (by simp [hm])]
  simp [State.turnTaken, State.answered, State.modifyPort, State.port, answer]

/-! ### The checks of R3 and R4 -/

/-- A handle to an EMPTY slot or to another generation is STALE. -/
theorem State.checkHandle_stale {s : State} {p : Port} {h : Word} {c : CheckSpec}
    (hs : (s.slot (handleSlot h)).record = none ∨ (s.slot (handleSlot h)).gen ≠ handleGen h) :
    s.checkHandle p h c = .inl .stale := by
  unfold State.checkHandle
  split
  · rfl
  · rename_i r hr
    rcases hs with hs | hs
    · rw [hr] at hs; cases hs
    · rw [if_pos (fun e => hs e.symm)]

/-- A handle that names a record goes through the kind, owner and state checks. -/
theorem State.checkHandle_names {s : State} {p : Port} {h : Word} {c : CheckSpec} {rec : Record} (hn : s.names h rec) :
    s.checkHandle p h c =
      if c.kindOk rec.kind = false then .inl .wrongKind
      else if c.ownerOnly = true ∧ rec.owner ≠ some p then .inl .notOwner
      else if c.onClosing = false ∧ rec.state = .closing then .inl .closing
      else .inr rec := by
  unfold State.checkHandle
  rw [hn.2]
  simp [hn.1]

/-- A request that passes its checks acts on the record it names. -/
theorem State.withRecord_passes {s : State} {p : Port} {r : Request} {c : CheckSpec} {rec : Record}
    (hn : s.names (r.word 0) rec) (hk : c.kindOk rec.kind = true) (ho : c.ownerOnly = true → rec.owner = some p)
    (hc : rec.state = .closing → c.onClosing = true) (act : Slot → Record → Port → Request → State → State) :
    s.withRecord c act p r = act r.target rec p r s := by
  unfold State.withRecord
  rw [State.checkHandle_names hn]
  have h1 : ¬(c.ownerOnly = true ∧ rec.owner ≠ some p) := fun h => h.2 (ho h.1)
  have h2 : ¬(c.onClosing = false ∧ rec.state = .closing) := fun h => by simp [hc h.2] at h
  rw [if_neg (by simp [hk]), if_neg h1, if_neg h2]
  rfl

/-- At its turn a request that passes R3 and R4 acts on the record it names; the check specification is that of its code. -/
theorem State.withRecord_atTurn {s : State} {p : Port} {c : ReqCode} {r : Request} {rest : List Request} {rec : Record}
    (h : s.atTurn p c r rest) (hp : s.passes p r rec) (cs : CheckSpec) (hk : cs.kindOk rec.kind = r.fitsKind rec.kind)
    (ho : cs.ownerOnly = c.ownerOnly) (hc : cs.onClosing = c.allowedClosing)
    (act : Slot → Record → Port → Request → State → State) :
    (s.turnTaken p rest).withRecord cs act p r = act r.target rec p r (s.turnTaken p rest) := by
  have h3 : r.code = c := h.2.2
  obtain ⟨h4, h5, h6, h7⟩ := hp
  rw [h3] at h6 h7
  exact State.withRecord_passes (s := s.turnTaken p rest) h4 (hk.trans h5) (fun e => h6 (ho ▸ e)) (fun e => hc.trans (h7 e)) act

/-- A request that R18 does not allow on a CLOSING record finds a LIVE one when it passes. -/
theorem State.live_of_passes {s : State} {p : Port} {r : Request} {rec : Record} (hp : s.passes p r rec)
    (hc : r.code.allowedClosing = false) : rec.state = .live := by
  cases hs : rec.state with
  | live => rfl
  | closing => have := hp.2.2.2 hs; rw [hc] at this; cases this

/-- The turn leaves what a handle names as it was. -/
theorem State.names_turnTaken {s : State} {p : Port} {rest : List Request} {h : Word} {rec : Record} :
    (s.turnTaken p rest).names h rec ↔ s.names h rec := Iff.rfl

end Sys2Proof.Machine
end

