-- ==== Sys2Proof/WellFormed.lean ====
section
/-! DEFINITION. When a command's operands are those its row speaks of. The meanings are given for every operand all the
same (an ill-formed one is the access it spells), so nothing stops on an ill-formed command. -/

namespace Sys2Proof

/-- The offsets whose writes the port ignores: RESPONSE, STATUS and 5 to 7 (R134). -/
def offsetIgnored (offset : BitVec 3) : Bool :=
  match offset.toNat with
  | 2 | 3 | 5 | 6 | 7 => true
  | _ => false

/-- The operands are those the row names: a CLEAR_REFUSAL write has bit 2 set and a CLEAR_STAGING write bit 3 (10.1), an
IGNORED_WRITE goes to an ignored offset (R134), a COMMAND_BYTE names a command with an argument and an UNKNOWN_COMMAND none
(R172). Every other command is well formed with every operand. -/
def Instr.wellFormed : Instr → Bool
  | .clearRefusal _ w => w.getLsbD 2
  | .clearStaging _ w => w.getLsbD 3
  | .ignoredWrite _ offset _ => offsetIgnored offset
  | .commandByte b => (LinkCommand.ofByte b).any (fun c => c.argCount == 1)
  | .unknownCommand b => (LinkCommand.ofByte b).isNone
  | .deviceReset | .powerOn _ | .selfCheck _ | .selfCheckEnd => true
  | .stageWrite _ _ | .submission _ _ | .responseRead _ | .attentionEnables _ _ | .attach _ _ => true
  | .detach _ | .cancel _ | .nextNotice _ | .readLines _ | .limits _ | .create _ | .retire _ | .adopt _ => true
  | .find _ | .scan _ | .read _ | .watch _ | .assignLine _ => true
  | .acquire _ | .acquireWait _ | .release _ | .restock _ | .readHolders _ => true
  | .add _ | .set _ | .compareSet _ | .clearLimit _ => true
  | .setFlags _ | .clearFlags _ | .toggleFlags _ | .claim _ | .unclaim _ => true
  | .next _ | .refill _ => true
  | .grant _ | .drainCompletion _ | .unitBoundary | .expiry _ _ | .prstAssertion _ | .walkStep => true
  | .frameStart | .frameEnd | .status | .counts | .readRecord _ | .purge _ | .clearTable | .clearTableSlot => true
  | .fence _ | .unfence _ | .portReset _ | .setWaitUnit _ | .setMattnMask _ | .clearMattn _ => true
  | .responsePhaseByte _ => true

end Sys2Proof
end

