-- ==== Sys2Proof/Laws/PerInstr.lean ====
section
/-! SUPPORT. The rows of the requests as syntax: each command that is taken from a port's intake queue is the row of one
request at one port, is well formed, and no row of another kind is one of them. -/

namespace Sys2Proof.Laws.RequestRows

/-- The port and the request of a row that is taken from an intake queue; none for every other row. -/
def requestOf : Instr → Option (Port × ReqCode)
  | .detach p => some (p, .detach)
  | .cancel p => some (p, .cancel)
  | .nextNotice p => some (p, .nextNotice)
  | .readLines p => some (p, .readLines)
  | .limits p => some (p, .limits)
  | .create p => some (p, .create)
  | .retire p => some (p, .retire)
  | .adopt p => some (p, .adopt)
  | .find p => some (p, .find)
  | .scan p => some (p, .scan)
  | .read p => some (p, .read)
  | .watch p => some (p, .watch)
  | .assignLine p => some (p, .assignLine)
  | .acquire p => some (p, .acquire)
  | .acquireWait p => some (p, .acquireWait)
  | .release p => some (p, .release)
  | .restock p => some (p, .restock)
  | .readHolders p => some (p, .readHolders)
  | .add p => some (p, .add)
  | .set p => some (p, .set)
  | .compareSet p => some (p, .compareSet)
  | .clearLimit p => some (p, .clearLimit)
  | .setFlags p => some (p, .setFlags)
  | .clearFlags p => some (p, .clearFlags)
  | .toggleFlags p => some (p, .toggleFlags)
  | .claim p => some (p, .claim)
  | .unclaim p => some (p, .unclaim)
  | .next p => some (p, .next)
  | .refill p => some (p, .refill)
  | .deviceReset => none
  | .powerOn _ => none
  | .selfCheck _ => none
  | .selfCheckEnd => none
  | .stageWrite _ _ => none
  | .submission _ _ => none
  | .responseRead _ => none
  | .attentionEnables _ _ => none
  | .clearRefusal _ _ => none
  | .clearStaging _ _ => none
  | .ignoredWrite _ _ _ => none
  | .attach _ _ => none
  | .grant _ => none
  | .drainCompletion _ => none
  | .unitBoundary => none
  | .expiry _ _ => none
  | .prstAssertion _ => none
  | .walkStep => none
  | .frameStart => none
  | .frameEnd => none
  | .unknownCommand _ => none
  | .status => none
  | .counts => none
  | .readRecord _ => none
  | .purge _ => none
  | .clearTable => none
  | .clearTableSlot => none
  | .fence _ => none
  | .unfence _ => none
  | .portReset _ => none
  | .setWaitUnit _ => none
  | .setMattnMask _ => none
  | .clearMattn _ => none
  | .commandByte _ => none
  | .responsePhaseByte _ => none

/-- The row is taken from an intake queue exactly as the request of that port that it stands for, and is well formed then. -/
def Statement (i : Instr) : Prop :=
  (∀ (p : Port) (c : ReqCode), ReqCode.taken p c = some i ↔ requestOf i = some (p, c)) ∧
  ((requestOf i).isSome → i.wellFormed = true)

/-- A request's row stands for that request at that port. -/
theorem requestOf_taken {p : Port} {c : ReqCode} {i : Instr} (h : ReqCode.taken p c = some i) :
    requestOf i = some (p, c) := by
  cases c <;> simp only [ReqCode.taken, Option.some.injEq, reduceCtorEq] at h <;> subst h <;> rfl

/-- What a row stands for is taken as that row. -/
theorem taken_requestOf {p : Port} {c : ReqCode} {i : Instr} (h : requestOf i = some (p, c)) :
    ReqCode.taken p c = some i := by
  cases i <;> simp only [requestOf, Option.some.injEq, Prod.mk.injEq, reduceCtorEq] at h <;>
    (obtain ⟨rfl, rfl⟩ := h; rfl)

/-- A row that stands for a request is well formed. -/
theorem wellFormed_requestOf {i : Instr} (h : (requestOf i).isSome) : i.wellFormed = true := by
  cases i <;> first | rfl | simp [requestOf] at h

/-- The statement of every row. -/
theorem all (i : Instr) : Statement i := ⟨fun _ _ => ⟨requestOf_taken, taken_requestOf⟩, wellFormed_requestOf⟩

theorem deviceReset : Statement Instr.deviceReset := all _
theorem powerOn (h : Bool) : Statement (Instr.powerOn h) := all _
theorem selfCheck (e : SelfCheckEvent) : Statement (Instr.selfCheck e) := all _
theorem selfCheckEnd : Statement Instr.selfCheckEnd := all _
theorem stageWrite (p : Port) (w : Word) : Statement (Instr.stageWrite p w) := all _
theorem submission (p : Port) (w : Word) : Statement (Instr.submission p w) := all _
theorem responseRead (p : Port) : Statement (Instr.responseRead p) := all _
theorem attentionEnables (p : Port) (w : Word) : Statement (Instr.attentionEnables p w) := all _
theorem clearRefusal (p : Port) (w : Word) : Statement (Instr.clearRefusal p w) := all _
theorem clearStaging (p : Port) (w : Word) : Statement (Instr.clearStaging p w) := all _
theorem ignoredWrite (p : Port) (o : BitVec 3) (w : Word) : Statement (Instr.ignoredWrite p o w) := all _
theorem attach (p : Port) (t : Tag) : Statement (Instr.attach p t) := all _
theorem detach (p : Port) : Statement (Instr.detach p) := all _
theorem cancel (p : Port) : Statement (Instr.cancel p) := all _
theorem nextNotice (p : Port) : Statement (Instr.nextNotice p) := all _
theorem readLines (p : Port) : Statement (Instr.readLines p) := all _
theorem limits (p : Port) : Statement (Instr.limits p) := all _
theorem create (p : Port) : Statement (Instr.create p) := all _
theorem retire (p : Port) : Statement (Instr.retire p) := all _
theorem adopt (p : Port) : Statement (Instr.adopt p) := all _
theorem find (p : Port) : Statement (Instr.find p) := all _
theorem scan (p : Port) : Statement (Instr.scan p) := all _
theorem read (p : Port) : Statement (Instr.read p) := all _
theorem watch (p : Port) : Statement (Instr.watch p) := all _
theorem assignLine (p : Port) : Statement (Instr.assignLine p) := all _
theorem acquire (p : Port) : Statement (Instr.acquire p) := all _
theorem acquireWait (p : Port) : Statement (Instr.acquireWait p) := all _
theorem release (p : Port) : Statement (Instr.release p) := all _
theorem restock (p : Port) : Statement (Instr.restock p) := all _
theorem readHolders (p : Port) : Statement (Instr.readHolders p) := all _
theorem add (p : Port) : Statement (Instr.add p) := all _
theorem set (p : Port) : Statement (Instr.set p) := all _
theorem compareSet (p : Port) : Statement (Instr.compareSet p) := all _
theorem clearLimit (p : Port) : Statement (Instr.clearLimit p) := all _
theorem setFlags (p : Port) : Statement (Instr.setFlags p) := all _
theorem clearFlags (p : Port) : Statement (Instr.clearFlags p) := all _
theorem toggleFlags (p : Port) : Statement (Instr.toggleFlags p) := all _
theorem claim (p : Port) : Statement (Instr.claim p) := all _
theorem unclaim (p : Port) : Statement (Instr.unclaim p) := all _
theorem next (p : Port) : Statement (Instr.next p) := all _
theorem refill (p : Port) : Statement (Instr.refill p) := all _
theorem grant (i : Slot) : Statement (Instr.grant i) := all _
theorem drainCompletion (i : Slot) : Statement (Instr.drainCompletion i) := all _
theorem unitBoundary : Statement Instr.unitBoundary := all _
theorem expiry (i : Slot) (g : Gen) : Statement (Instr.expiry i g) := all _
theorem prstAssertion (p : Port) : Statement (Instr.prstAssertion p) := all _
theorem walkStep : Statement Instr.walkStep := all _
theorem frameStart : Statement Instr.frameStart := all _
theorem frameEnd : Statement Instr.frameEnd := all _
theorem unknownCommand (b : Byte) : Statement (Instr.unknownCommand b) := all _
theorem status : Statement Instr.status := all _
theorem counts : Statement Instr.counts := all _
theorem readRecord (b : Byte) : Statement (Instr.readRecord b) := all _
theorem purge (m : PurgeMoment) : Statement (Instr.purge m) := all _
theorem clearTable : Statement Instr.clearTable := all _
theorem clearTableSlot : Statement Instr.clearTableSlot := all _
theorem fence (b : Byte) : Statement (Instr.fence b) := all _
theorem unfence (b : Byte) : Statement (Instr.unfence b) := all _
theorem portReset (b : Byte) : Statement (Instr.portReset b) := all _
theorem setWaitUnit (b : Byte) : Statement (Instr.setWaitUnit b) := all _
theorem setMattnMask (b : Byte) : Statement (Instr.setMattnMask b) := all _
theorem clearMattn (b : Byte) : Statement (Instr.clearMattn b) := all _
theorem commandByte (b : Byte) : Statement (Instr.commandByte b) := all _
theorem responsePhaseByte (b : Byte) : Statement (Instr.responsePhaseByte b) := all _

end Sys2Proof.Laws.RequestRows
end

