-- ==== Sys2Proof/Laws/Pools.lean ====
section
/-! SUPPORT. What the operations on holding lists, waiter queues and reservations do to a POOL's body: what each leaves alone and
what it counts (03, 04). -/

namespace Sys2Proof.Machine

/-! ### `updateFirst` -/

theorem updateFirst_pos {α : Type} {q : α → Bool} {x : α} (h : q x = true) (f : α → α) (xs : List α) :
    updateFirst q f (x :: xs) = f x :: xs := by rw [updateFirst, if_pos h]

theorem updateFirst_neg {α : Type} {q : α → Bool} {x : α} (h : ¬q x = true) (f : α → α) (xs : List α) :
    updateFirst q f (x :: xs) = x :: updateFirst q f xs := by rw [updateFirst, if_neg h]

/-- A function that the update does not change of an element is unchanged of the list. -/
theorem map_updateFirst {α β : Type} (g : α → β) (q : α → Bool) (f : α → α) (h : ∀ x, q x = true → g (f x) = g x)
    (l : List α) : (updateFirst q f l).map g = l.map g := by
  induction l with
  | nil => rfl
  | cons x xs ih =>
    by_cases hx : q x = true
    · simp [updateFirst, hx, h x hx]
    · simp [updateFirst, hx, ih]

@[simp] theorem length_updateFirst {α : Type} (q : α → Bool) (f : α → α) (l : List α) :
    (updateFirst q f l).length = l.length := by
  induction l with
  | nil => rfl
  | cons x xs ih => by_cases hx : q x = true <;> simp [updateFirst, hx, ih]

/-- With no element to change the list stays. -/
theorem updateFirst_none {α : Type} {q : α → Bool} {l : List α} (h : ∀ x ∈ l, q x = false) (f : α → α) :
    updateFirst q f l = l := by
  induction l with
  | nil => rfl
  | cons x xs ih =>
    simp only [updateFirst, h x (by simp)]
    simp [ih fun y hy => h y (by simp [hy])]

/-- The element the update changes, by its place: the first that meets the selection. -/
theorem updateFirst_split {α : Type} {q : α → Bool} {front : List α} {x : α} (hf : ∀ y ∈ front, q y = false)
    (hx : q x = true) (f : α → α) (back : List α) :
    updateFirst q f (front ++ x :: back) = front ++ f x :: back := by
  induction front with
  | nil => exact updateFirst_pos hx f back
  | cons y ys ih =>
    rw [List.cons_append, updateFirst_neg (by simp [hf y (by simp)]), ih fun z hz => hf z (by simp [hz]), List.cons_append]

/-- An element of the updated list is one of the old list, or the change of one that the update selects. -/
theorem mem_updateFirst {α : Type} {q : α → Bool} {f : α → α} {l : List α} {y : α} (h : y ∈ updateFirst q f l) :
    y ∈ l ∨ ∃ x ∈ l, q x = true ∧ y = f x := by
  induction l with
  | nil => cases h
  | cons x xs ih =>
    by_cases hx : q x = true
    · rw [updateFirst_pos hx] at h
      rcases List.mem_cons.mp h with rfl | h
      · exact .inr ⟨x, by simp, hx, rfl⟩
      · exact .inl (by simp [h])
    · rw [updateFirst_neg hx] at h
      rcases List.mem_cons.mp h with rfl | h
      · exact .inl (by simp)
      · rcases ih h with h | ⟨z, hz, hq, rfl⟩
        · exact .inl (by simp [h])
        · exact .inr ⟨z, by simp [hz], hq, rfl⟩

/-- What the update does to a count: one element that meets the selection is replaced. -/
theorem countP_updateFirst {α : Type} (c q : α → Bool) (f : α → α) (l : List α)
    (hq : ∀ x, q x = true → c x = false ∧ c (f x) = true) :
    (updateFirst q f l).countP c = l.countP c + if l.any q then 1 else 0 := by
  induction l with
  | nil => rfl
  | cons x xs ih =>
    by_cases hx : q x = true
    · rw [updateFirst_pos hx]; simp [hx, (hq x hx).1, (hq x hx).2]
    · rw [updateFirst_neg hx, List.countP_cons, ih]; simp [List.countP_cons, hx]; omega

/-- A selection that neither a changed element nor its change meets is as before. -/
theorem filter_updateFirst {α : Type} (c q : α → Bool) (f : α → α) (l : List α)
    (hq : ∀ x, q x = true → c x = false ∧ c (f x) = false) : (updateFirst q f l).filter c = l.filter c := by
  induction l with
  | nil => rfl
  | cons x xs ih =>
    by_cases hx : q x = true
    · rw [updateFirst_pos hx, List.filter_cons, List.filter_cons]; simp [(hq x hx).1, (hq x hx).2]
    · rw [updateFirst_neg hx, List.filter_cons, List.filter_cons, ih]

/-! ### Holding lists -/

theorem lists_iff (b : Pool) (p : Port) : b.lists p = true ↔ p ∈ b.holdings.map (·.port) := by
  simp only [Pool.lists, List.any_eq_true, beq_iff_eq, List.mem_map]

/-- The ports of a holding list after units have joined it. -/
theorem ports_addUnits (p : Port) (n : Nat) (hs : List Holding) :
    (addUnits p n hs).map (·.port) =
      if hs.any (fun h => h.port == p) then hs.map (·.port) else hs.map (·.port) ++ [p] := by
  unfold addUnits
  split
  · apply map_updateFirst; intro x _; rfl
  · simp

/-- Units that join a holding list are all there. -/
theorem units_addUnits (p : Port) (n : Nat) (hs : List Holding) :
    ((addUnits p n hs).map (·.units)).sum = (hs.map (·.units)).sum + n := by
  unfold addUnits
  split
  · rename_i h
    induction hs with
    | nil => simp at h
    | cons x xs ih =>
      by_cases hx : x.port = p
      · rw [updateFirst_pos (by simp [hx])]; simp; omega
      · simp only [List.any_cons, beq_eq_false_iff_ne.mpr hx, Bool.false_or] at h
        rw [updateFirst_neg (by simp [hx])]; simp [ih h]; omega
  · simp

/-- A holding list keeps one entry for a port when units join it. -/
theorem nodup_addUnits {p : Port} {n : Nat} {hs : List Holding} (h : (hs.map (·.port)).Nodup) :
    ((addUnits p n hs).map (·.port)).Nodup := by
  rw [ports_addUnits]
  split
  · exact h
  · rename_i hn
    refine List.nodup_append.mpr ⟨h, by simp, ?_⟩
    rintro a ha b hb rfl
    simp only [List.mem_singleton] at hb
    subst hb
    simp only [List.mem_map] at ha
    obtain ⟨x, hx, hxp⟩ := ha
    exact hn (List.any_eq_true.mpr ⟨x, hx, by simp [hxp]⟩)

/-- The units a port holds are those of the first entry it has in the holding list. -/
theorem unitsOf_eq (b : Pool) (p : Port) :
    b.unitsOf p = (b.holdings.find? fun h => h.port == p).elim 0 (·.units) := by
  unfold Pool.unitsOf
  split <;> rename_i h <;> simp [h]

/-- The units a port holds after units have joined a list: its own rise, and no other port's. -/
theorem unitsOf_addUnits (p q : Port) (n : Nat) (b : Pool) :
    ({ b with holdings := addUnits p n b.holdings } : Pool).unitsOf q = b.unitsOf q + if p = q then n else 0 := by
  rw [unitsOf_eq, unitsOf_eq]
  generalize b.holdings = hs
  show ((addUnits p n hs).find? fun h => h.port == q).elim 0 (·.units) = _
  unfold addUnits
  split
  · rename_i h
    induction hs with
    | nil => simp at h
    | cons x xs ih =>
      by_cases hx : x.port = p
      · rw [updateFirst_pos (by simp [hx]), List.find?_cons, List.find?_cons]
        subst hx
        by_cases hq : x.port = q
        · simp [hq]
        · simp [beq_eq_false_iff_ne.mpr hq, hq]
      · simp only [List.any_cons, beq_eq_false_iff_ne.mpr hx, Bool.false_or] at h
        rw [updateFirst_neg (by simp [hx]), List.find?_cons, List.find?_cons]
        by_cases hq : x.port = q
        · simp [hq, show p ≠ q from fun e => hx (hq.trans e.symm)]
        · simp only [beq_eq_false_iff_ne.mpr hq]
          exact ih h
  · rename_i h
    rw [List.find?_append]
    cases hf : hs.find? (fun h => h.port == q) with
    | some x =>
      have : p ≠ q := by
        rintro rfl
        exact h (List.any_eq_true.mpr ⟨x, List.mem_of_find?_eq_some hf, List.find?_some (p := fun h : Holding => h.port == p) hf⟩)
      simp [this]
    | none => by_cases hq : p = q <;> simp [hq]

/-- The ports a list has an entry for after units have joined it. -/
theorem lists_addUnits (p q : Port) (n : Nat) (b : Pool) :
    ({ b with holdings := addUnits p n b.holdings } : Pool).lists q = (b.lists q || p == q) := by
  rw [Bool.eq_iff_iff, lists_iff, ports_addUnits, Bool.or_eq_true, lists_iff, beq_iff_eq]
  split
  · rename_i h
    obtain ⟨x, hx, hp⟩ := List.any_eq_true.mp h
    constructor
    · exact .inl
    · rintro (h | rfl)
      · exact h
      · exact List.mem_map.mpr ⟨x, hx, by simpa using hp⟩
  · simp [eq_comm]

/-! ### Reservations -/

/-- A waiter without its reservation mark: what a change of reservations leaves alone. -/
def Waiter.core (w : Waiter) : Port × Tag × Nat × Option Nat := (w.port, w.tag, w.units, w.timeout)

@[simp] theorem core_giveReservation (p : Port) (ws : List Waiter) :
    (giveReservation p ws).map Waiter.core = ws.map Waiter.core := by
  apply map_updateFirst; intro x _; rfl

@[simp] theorem length_giveReservation (p : Port) (ws : List Waiter) : (giveReservation p ws).length = ws.length := by
  simp [giveReservation]

@[simp] theorem core_takeReservation (p : Port) (ws : List Waiter) :
    (takeReservation p ws).map Waiter.core = ws.map Waiter.core := by
  unfold takeReservation
  rw [List.map_reverse, map_updateFirst Waiter.core _ _ (by intro x _; rfl), List.map_reverse, List.reverse_reverse]

@[simp] theorem length_takeReservation (p : Port) (ws : List Waiter) : (takeReservation p ws).length = ws.length := by
  simp [takeReservation]

/-- One more waiter carries a reservation, when one of the port was without. -/
theorem reserved_giveReservation (p : Port) (ws : List Waiter) :
    (giveReservation p ws).countP (·.reserved) =
      ws.countP (·.reserved) + if ws.any (fun w => w.port == p && !w.reserved) then 1 else 0 := by
  unfold giveReservation
  exact countP_updateFirst _ _ _ _ (fun x hx => by simp at hx; simp [hx])

/-- The reservations of port `p` alone, when one is given to it. -/
theorem reserved_giveReservation_port (p : Port) (ws : List Waiter) :
    (giveReservation p ws).countP (fun w => w.port == p && w.reserved) =
      ws.countP (fun w => w.port == p && w.reserved) + if ws.any (fun w => w.port == p && !w.reserved) then 1 else 0 := by
  unfold giveReservation
  exact countP_updateFirst _ _ _ _ (fun x hx => by simp at hx; simp [hx])

/-- What the waiters of another port are, when one is given to `p`. -/
theorem filter_giveReservation_ne {p q : Port} (h : p ≠ q) (ws : List Waiter) :
    (giveReservation p ws).filter (fun w => w.port == q) = ws.filter (fun w => w.port == q) := by
  apply filter_updateFirst
  intro x hx
  have hp : x.port = p := by simp at hx; exact hx.1
  simp [hp, h]

@[simp] theorem core_handOn (b : Pool) (ended rest : List Waiter) :
    (handOn b ended rest).map Waiter.core = rest.map Waiter.core := by
  unfold handOn
  induction ended generalizing rest with
  | nil => rfl
  | cons w ws ih =>
    simp only [List.foldl_cons]
    rw [ih]
    split
    · simp
    · rfl

/-! ### The end of waiters other than by grant -/

@[simp] theorem endWaiters_level (q : Waiter → Bool) (b : Pool) : (b.endWaiters q).level = b.level := rfl
@[simp] theorem endWaiters_stock (q : Waiter → Bool) (b : Pool) : (b.endWaiters q).stock = b.stock := rfl
@[simp] theorem endWaiters_lowMark (q : Waiter → Bool) (b : Pool) : (b.endWaiters q).lowMark = b.lowMark := rfl
@[simp] theorem endWaiters_holdings (q : Waiter → Bool) (b : Pool) : (b.endWaiters q).holdings = b.holdings := rfl

theorem core_endWaiters (q : Waiter → Bool) (b : Pool) :
    (b.endWaiters q).waiters.map Waiter.core = (b.waiters.filter (fun w => !q w)).map Waiter.core :=
  core_handOn _ _ _

/-! ### The responses of an event that ends waiters -/

/-- Where ended waiters get no response, only the grants' responses are left. -/
theorem mergeResponses_none (q : Waiter → Bool) (ws : List Waiter) (grants : List (Port × Response)) :
    mergeResponses q none ws grants = grants := by
  induction ws generalizing grants with
  | nil => rfl
  | cons w ws ih =>
    unfold mergeResponses
    split
    · exact ih grants
    · cases grants with
      | nil => exact ih []
      | cons g gs => exact congrArg (g :: ·) (ih gs)

/-- Where nothing is granted, only the ended waiters are answered. -/
theorem mergeResponses_nil (q : Waiter → Bool) (r : ResultCode) (ws : List Waiter) :
    mergeResponses q (some r) ws [] = (ws.filter q).map fun w => (w.port, (⟨w.tag, r, []⟩ : Response)) := by
  induction ws with
  | nil => rfl
  | cons w ws ih =>
    unfold mergeResponses
    by_cases h : q w = true <;> simp [h, ih]

/-! ### A grant -/

@[simp] theorem grantHead_level (w : Waiter) (rest : List Waiter) (b : Pool) :
    (b.grantHead w rest).level = b.level - w.units := rfl
@[simp] theorem grantHead_stock (w : Waiter) (rest : List Waiter) (b : Pool) : (b.grantHead w rest).stock = b.stock := rfl
@[simp] theorem grantHead_lowMark (w : Waiter) (rest : List Waiter) (b : Pool) :
    (b.grantHead w rest).lowMark = b.lowMark := rfl
@[simp] theorem grantHead_holdings (w : Waiter) (rest : List Waiter) (b : Pool) :
    (b.grantHead w rest).holdings = addUnits w.port w.units b.holdings := rfl

theorem core_grantHead (w : Waiter) (rest : List Waiter) (b : Pool) :
    (b.grantHead w rest).waiters.map Waiter.core = rest.map Waiter.core := by
  unfold Pool.grantHead
  dsimp only
  split
  · rfl
  · simp

theorem length_grantHead (w : Waiter) (rest : List Waiter) (b : Pool) :
    (b.grantHead w rest).waiters.length = rest.length := by
  have := congrArg List.length (core_grantHead w rest b)
  simpa using this

/-- A grant moves units from the level to the holdings. -/
theorem units_grantHead {w : Waiter} {b : Pool} (h : w.units ≤ b.level) (rest : List Waiter) :
    (b.grantHead w rest).level + (b.grantHead w rest).heldUnits = b.level + b.heldUnits := by
  simp [Pool.heldUnits, units_addUnits]
  omega

/-- A grant gives its units to its port alone. -/
theorem unitsOf_grantHead (w : Waiter) (rest : List Waiter) (b : Pool) (q : Port) :
    (b.grantHead w rest).unitsOf q = b.unitsOf q + if w.port = q then w.units else 0 :=
  unitsOf_addUnits w.port q w.units b

/-- A grant lists its port, and no other. -/
theorem lists_grantHead (w : Waiter) (rest : List Waiter) (b : Pool) (q : Port) :
    (b.grantHead w rest).lists q = (b.lists q || w.port == q) :=
  lists_addUnits w.port q w.units b

/-- The holding list keeps its entries' places at a grant: a new entry joins behind them (R41). -/
theorem ports_grantHead (w : Waiter) (rest : List Waiter) (b : Pool) :
    b.holdings.map (·.port) <+: (b.grantHead w rest).holdings.map (·.port) := by
  rw [grantHead_holdings, ports_addUnits]
  split
  · exact List.prefix_refl _
  · exact List.prefix_append _ _

/-! ### The cascade -/

theorem cascadeUpTo_grant {b : Pool} {w : Waiter} {rest : List Waiter} (hw : b.waiters = w :: rest)
    (h : w.units ≤ b.level) (n : Nat) :
    Pool.cascadeUpTo (n + 1) b =
      ((Pool.cascadeUpTo n (b.grantHead w rest)).1,
        grantResponse w (b.grantHead w rest) :: (Pool.cascadeUpTo n (b.grantHead w rest)).2) := by
  rw [Pool.cascadeUpTo, hw]
  simp [h]

theorem cascadeUpTo_blocked {b : Pool} (h : ∀ w, b.waiters.head? = some w → b.level < w.units) (n : Nat) :
    Pool.cascadeUpTo n b = (b, []) := by
  cases n with
  | zero => rfl
  | succ n =>
    rw [Pool.cascadeUpTo]
    cases hw : b.waiters with
    | nil => rfl
    | cons w rest =>
      have := h w (by simp [hw])
      simp [Nat.not_le.mpr this]

/-- A property that a grant keeps, a cascade keeps. -/
theorem cascadeUpTo_induction {P : Pool → Prop}
    (step : ∀ (b : Pool) (w : Waiter) (rest : List Waiter), P b → b.waiters = w :: rest → w.units ≤ b.level →
      P (b.grantHead w rest)) (n : Nat) (b : Pool) (h : P b) : P (Pool.cascadeUpTo n b).1 := by
  induction n generalizing b with
  | zero => exact h
  | succ n ih =>
    cases hw : b.waiters with
    | nil => rw [cascadeUpTo_blocked (by simp [hw])]; exact h
    | cons w rest =>
      by_cases hu : w.units ≤ b.level
      · rw [cascadeUpTo_grant hw hu]; exact ih _ (step b w rest h hw hu)
      · rw [cascadeUpTo_blocked (by simp [hw]; omega)]; exact h

theorem cascade_induction {P : Pool → Prop}
    (step : ∀ (b : Pool) (w : Waiter) (rest : List Waiter), P b → b.waiters = w :: rest → w.units ≤ b.level →
      P (b.grantHead w rest)) (b : Pool) (h : P b) : P b.cascade.1 :=
  cascadeUpTo_induction step _ b h

/-- With as much fuel as waiters the cascade stops only at a head it cannot serve. -/
theorem cascadeUpTo_stops (n : Nat) (b : Pool) (h : b.waiters.length ≤ n) (w : Waiter)
    (hw : (Pool.cascadeUpTo n b).1.waiters.head? = some w) : (Pool.cascadeUpTo n b).1.level < w.units := by
  induction n generalizing b with
  | zero =>
    have : b.waiters = [] := List.length_eq_zero_iff.mp (by omega)
    simp [Pool.cascadeUpTo, this] at hw
  | succ n ih =>
    cases hb : b.waiters with
    | nil =>
      rw [cascadeUpTo_blocked (by simp [hb])] at hw
      simp [hb] at hw
    | cons v rest =>
      by_cases hu : v.units ≤ b.level
      · rw [cascadeUpTo_grant hb hu] at hw ⊢
        refine ih _ ?_ hw
        rw [length_grantHead]
        simp [hb] at h; omega
      · have hbl : ∀ w, b.waiters.head? = some w → b.level < w.units := by
          intro w hw; simp [hb] at hw; subst hw; omega
        rw [cascadeUpTo_blocked hbl] at hw ⊢
        exact hbl w hw

/-- Units are conserved by a cascade. -/
theorem units_cascade (b : Pool) : b.cascade.1.level + b.cascade.1.heldUnits = b.level + b.heldUnits :=
  cascade_induction (P := fun c => c.level + c.heldUnits = b.level + b.heldUnits)
    (fun _ _ rest h _ hu => (units_grantHead hu rest).trans h) b rfl

@[simp] theorem cascade_stock (b : Pool) : b.cascade.1.stock = b.stock :=
  cascade_induction (P := fun c => c.stock = b.stock) (fun _ _ _ h _ _ => h) b rfl

@[simp] theorem cascade_lowMark (b : Pool) : b.cascade.1.lowMark = b.lowMark :=
  cascade_induction (P := fun c => c.lowMark = b.lowMark) (fun _ _ _ h _ _ => h) b rfl

theorem cascade_nodup {b : Pool} (h : (b.holdings.map (·.port)).Nodup) : (b.cascade.1.holdings.map (·.port)).Nodup :=
  cascade_induction (P := fun c => (c.holdings.map (·.port)).Nodup) (fun _ _ _ h _ _ => nodup_addUnits h) b h

/-- The waiters after a cascade are the last of those before it, but for their reservation marks. -/
theorem core_cascade (b : Pool) : b.cascade.1.waiters.map Waiter.core <:+ b.waiters.map Waiter.core :=
  cascade_induction (P := fun c => c.waiters.map Waiter.core <:+ b.waiters.map Waiter.core)
    (fun c w rest h hw _ => by
      rw [core_grantHead]
      refine List.IsSuffix.trans ?_ h
      rw [hw]
      exact List.suffix_cons _ _) b (List.suffix_refl _)

end Sys2Proof.Machine
end

