-- ==== Sys2Proof/Laws/Reports.lean ====
section
/-! SUPPORT. What a change report does to the changed sets and the line counts (06): one entry for a slot, in slot order, and the
count of one line at most. -/

namespace Sys2Proof.Machine

/-! ### Changed sets -/

/-- The slots of a set after an entry is recorded are those of the set and the entry's. -/
theorem mem_recordEntry {e x : ChangedEntry} {set : List ChangedEntry} (h : x ∈ recordEntry e set) :
    x ∈ set ∨ x.slot = e.slot := by
  induction set with
  | nil => simp [recordEntry] at h; exact .inr (by rw [h])
  | cons y ys ih =>
    unfold recordEntry at h
    split at h
    · simp only [List.mem_cons] at h
      rcases h with rfl | h | h
      · exact .inr rfl
      · exact .inl (by simp [h])
      · exact .inl (by simp [h])
    · split at h
      · rename_i he
        simp only [List.mem_cons] at h
        rcases h with rfl | h
        · exact .inr he.symm
        · exact .inl (by simp [h])
      · simp only [List.mem_cons] at h
        rcases h with rfl | h
        · exact .inl (by simp)
        · rcases ih h with h | h
          · exact .inl (by simp [h])
          · exact .inr h

/-- A set in slot order with one entry for a slot stays so (R119). -/
theorem pairwise_recordEntry {e : ChangedEntry} {set : List ChangedEntry}
    (h : set.Pairwise (fun a b => a.slot < b.slot)) : (recordEntry e set).Pairwise (fun a b => a.slot < b.slot) := by
  induction set with
  | nil => simp [recordEntry]
  | cons y ys ih =>
    obtain ⟨h1, h2⟩ := List.pairwise_cons.mp h
    unfold recordEntry
    split
    · rename_i hlt
      refine List.pairwise_cons.mpr ⟨?_, h⟩
      intro a ha
      rcases List.mem_cons.mp ha with rfl | ha
      · exact hlt
      · exact hlt.trans (h1 a ha)
    · split
      · exact List.pairwise_cons.mpr ⟨fun a ha => h1 a ha, h2⟩
      · rename_i hlt hne
        refine List.pairwise_cons.mpr ⟨?_, ih h2⟩
        intro a ha
        rcases mem_recordEntry ha with ha | ha
        · exact h1 a ha
        · rw [ha]; exact lt_of_le_of_ne (not_lt.mp hlt) (fun hh => hne hh.symm)

/-- In a set in slot order no entry before the first with a greater slot has the slot sought. -/
theorem entryOf_none_of_lt {i : Slot} {set : List ChangedEntry} (h : ∀ x ∈ set, i < x.slot) : entryOf i set = none := by
  unfold entryOf
  rw [List.find?_eq_none]
  intro x hx
  have := h x hx
  simp [ne_of_gt this]

/-- The recorded slot's entry: its reasons are joined, and its generation is the event's (R120). -/
theorem entryOf_recordEntry_self (e : ChangedEntry) {set : List ChangedEntry}
    (h : set.Pairwise (fun a b => a.slot < b.slot)) :
    entryOf e.slot (recordEntry e set) =
      some ⟨e.slot, e.gen, (((entryOf e.slot set).map (·.reasons)).getD Reasons.empty).union e.reasons⟩ := by
  have hu : ∀ r : Reasons, Reasons.empty.union r = r := by intro r; simp [Reasons.empty, Reasons.union]
  induction set with
  | nil => simp [recordEntry, entryOf, hu]
  | cons y ys ih =>
    obtain ⟨h1, h2⟩ := List.pairwise_cons.mp h
    unfold recordEntry
    split
    · rename_i hlt
      have : entryOf e.slot (y :: ys) = none := by
        apply entryOf_none_of_lt
        intro x hx
        rcases List.mem_cons.mp hx with rfl | hx
        · exact hlt
        · exact hlt.trans (h1 x hx)
      rw [this]
      simp [entryOf, hu]
    · split
      · rename_i he
        simp [entryOf, he]
      · rename_i hne
        have hy : (y.slot == e.slot) = false := by simpa using fun hh => hne hh.symm
        have := ih h2
        unfold entryOf at this ⊢
        rw [List.find?_cons, List.find?_cons]
        simp only [hy]
        exact this

/-- Every other slot's entry stays. -/
theorem entryOf_recordEntry_ne {e : ChangedEntry} {j : Slot} (hj : j ≠ e.slot) (set : List ChangedEntry) :
    entryOf j (recordEntry e set) = entryOf j set := by
  have hb : (e.slot == j) = false := by simpa using fun hh => hj hh.symm
  induction set with
  | nil => simp [recordEntry, entryOf, hb]
  | cons y ys ih =>
    unfold recordEntry
    split
    · unfold entryOf
      rw [List.find?_cons]
      simp only [hb]
    · split
      · rename_i he
        have hy : (y.slot == j) = false := by rw [← he]; exact hb
        simp [entryOf, hy]
      · unfold entryOf at ih ⊢
        rw [List.find?_cons, List.find?_cons, ih]

/-- A port's set after a report: as it was where its mode keeps no reason of it (R118). -/
theorem notify_set (watch : Vector WatchMode 4) (e : ChangedEntry) (s : State) (p : Port) :
    (s.notify watch e).changed[p.val] = noticeFor watch[p.val] e s.changed[p.val] := by
  simp [State.notify]

theorem noticeFor_kept_none {mode : WatchMode} {e : ChangedEntry} (h : e.reasons.keptBy mode = Reasons.empty)
    (set : List ChangedEntry) : noticeFor mode e set = set := by simp [noticeFor, h]

theorem noticeFor_kept_some {mode : WatchMode} {e : ChangedEntry} (h : e.reasons.keptBy mode ≠ Reasons.empty)
    (set : List ChangedEntry) : noticeFor mode e set = recordEntry { e with reasons := e.reasons.keptBy mode } set := by
  simp [noticeFor, h]

/-- A set in slot order stays so whatever a port records (R119). -/
theorem pairwise_noticeFor {mode : WatchMode} {e : ChangedEntry} {set : List ChangedEntry}
    (h : set.Pairwise (fun a b => a.slot < b.slot)) : (noticeFor mode e set).Pairwise (fun a b => a.slot < b.slot) := by
  unfold noticeFor
  split
  · exact h
  · exact pairwise_recordEntry h

/-! ### Line counts -/

/-- The counts after one line's count has changed. -/
theorem lineCounts_countLine (x y : LineNo) (f : Nat → Nat) (s : State) :
    (s.countLine x f).lineCounts[y.val] = if x = y then f s.lineCounts[x.val] else s.lineCounts[y.val] := by
  by_cases h : x = y
  · subst h; simp [State.countLine]
  · have : x.val ≠ y.val := fun e => h (Fin.ext e)
    simp [State.countLine, h, this]

end Sys2Proof.Machine
end

