-- ==== Sys2Proof/Tests/Slice0.lean ====
section
/-! SUPPORT. Tests of the model on small states: the checks of WellFormed, the worked words of the spec, one or two effects for
each command, and for each statement with hypotheses a state and operands that meet them. -/

namespace Sys2Proof.Machine.Tests

set_option Elab.async false

/-! ### Small states -/

/-- READY, with nothing in the table and every port OFFLINE. -/
def readyState : State := { State.reset with condition := .ready }

/-- Port 0 changed by `f`. -/
def port0 (f : PortState → PortState) (s : State) : State := s.modifyPort 0 f

/-- Port 0 ONLINE with the request `r` at the head of its intake queue, and the next turn its own. -/
def asking (r : Request) (s : State) : State :=
  port0 (fun q => { q with mode := .online, intake := [r], outstanding := [r.tag] }) s

/-- A request with tag 5. -/
def req (c : ReqCode) (words : List Word) : Request := ⟨c, 5, words⟩

/-- A LIVE record of port 0 with this body. -/
def live (body : Body) : Record := ⟨0x00AB, .live, some 0, none, Vector.replicate 4 .off, .absent, body⟩

/-- The record `rec` in slot 2, whose handle word is 0200h. -/
def put (rec : Record) (s : State) : State := s.holding 2 rec

/-- Port 0 at its turn with a request on the record in slot 2. -/
def turnOn (body : Body) (c : ReqCode) (words : List Word) : State := asking (req c (0x0200 :: words)) (put (live body) readyState)

def aPool : Pool := ⟨10, 4, 0, [⟨0, 6⟩], []⟩
def aCounter : Counter := ⟨5, -10, 20, .clip, false, -10, 20⟩
def aFlagSet : FlagSet := ⟨0x0003, (Vector.replicate 16 none).set 1 (some 0), 0⟩
def aSequence : Sequence := ⟨0xFFFE, 5, 100, 0⟩

/-- Two waiters of ports 1 and 2 on a POOL whose level is 4. -/
def waitedPool : Pool := ⟨10, 4, 0, [⟨0, 6⟩], [⟨1, 3, 5, some 1, true⟩, ⟨2, 4, 2, none, true⟩]⟩

/-- The state after a command. -/
def after (c : Instr) (s : State) : State :=
  match exec c s with
  | .next t => t
  | .fault _ | .refused _ => s

/-- The body of the record in slot 2. -/
def bodyOf (s : State) : Option Body := (s.slot 2).record.map (·.body)

/-- The responses of port 0. -/
def answers (s : State) : List Response := (s.port 0).responses

/-- A frame that waits for the argument of `c`, or in its command phase. -/
def framed (c : LinkCommand) (s : State) : State :=
  { s with frame := if c.argCount = 0 then .command else .argument c, chipSelect := true }

/-- The status and data of the response in the frame. -/
def linkReply (s : State) : Option (LinkStatus × List Byte) :=
  match s.frame with
  | .response (some st) data _ => some (st, data)
  | .response none _ _ | .idle | .command | .argument _ => none

/-! ### WellFormed: a term for each check that it refuses -/

theorem test_wf_clearRefusal : (Instr.clearRefusal 0 0x0003).wellFormed = false ∧ (Instr.clearRefusal 0 0x0007).wellFormed = true := by
  decide
theorem test_wf_clearStaging : (Instr.clearStaging 0 0x0007).wellFormed = false ∧ (Instr.clearStaging 0 0x000B).wellFormed = true := by
  decide
theorem test_wf_ignoredWrite :
    (Instr.ignoredWrite 0 0 0).wellFormed = false ∧ (Instr.ignoredWrite 0 1 0).wellFormed = false ∧
    (Instr.ignoredWrite 0 4 0).wellFormed = false ∧ (Instr.ignoredWrite 0 7 0).wellFormed = true := by decide
theorem test_wf_commandByte :
    (Instr.commandByte 0x01).wellFormed = false ∧ (Instr.commandByte 0x00).wellFormed = false ∧
    (Instr.commandByte 0x10).wellFormed = true := by decide
theorem test_wf_unknownCommand :
    (Instr.unknownCommand 0x32).wellFormed = false ∧ (Instr.unknownCommand 0x33).wellFormed = true := by decide

/-! ### Words and bytes of the spec -/

theorem test_empty_header : emptyHeader = 0x02C0 := by decide
theorem test_none_header : responseHeader true 0 .none 0 = 0x82C0 := by decide
theorem test_header_word : headerWord .create 9 = 0x2240 ∧ headerCode 0x2240 = some .create ∧ headerTag 0x2240 = 9 := by decide
theorem test_handle_word : handleWord 17 3 = 0x1103 ∧ handleSlot 0x1103 = 17 ∧ handleGen 0x1103 = 3 := by decide
theorem test_assignment_word :
    assignmentOfWord 0x0112 = some (some ⟨2, .inverted⟩) ∧ assignmentOfWord 0 = some none ∧ assignmentOfWord 0x0003 = none ∧
    assignmentOfWord 0x0108 = none := by decide
theorem test_counter_status : (⟨-1, -10, 20, .clip, true, 0, 0⟩ : Counter).statusWord true = 0x0017 := by decide
theorem test_descriptor :
    ({ live (.sequence aSequence) with line := some ⟨5, .inverted⟩, watch := Vector.replicate 4 .ended } : Record).descriptor 2 =
      0xD363 := by decide
theorem test_image_lengths :
    (⟨0, none⟩ : SlotState).image.length = 2 ∧ (⟨0, some (live (.sequence aSequence))⟩ : SlotState).image.length = 17 ∧
    (⟨0, some (live (.counter aCounter))⟩ : SlotState).image.length = 21 ∧
    (⟨0, some (live (.flags aFlagSet))⟩ : SlotState).image.length = 30 ∧
    (⟨0, some (live (.pool waitedPool))⟩ : SlotState).image.length = 18 + 3 + 12 := by decide

/-! ### The status word and the window -/

theorem test_status_words :
    PortState.reset.statusWord = 0xA200 ∧
    ({ PortState.reset with mode := .online, outstanding := [4], refusalFlag := true, refusalReason := some .tagInUse, refusedTag := 4 } :
      PortState).statusWord = 0x09E4 := by decide +kernel

theorem test_stage_word_overflow :
    ({ PortState.reset with staging := List.replicate 6 0, overflow := true } : PortState).windowWord 0 = 7 := by decide +kernel


/-! ### One or two effects for each command -/

theorem test_deviceReset :
    (after .deviceReset readyState).resetAsserted = true ∧ (after .deviceReset readyState).condition = .checking := by decide +kernel

theorem test_powerOn :
    (after (.powerOn false) readyState).resetAsserted = false ∧ (after (.powerOn true) readyState).resetAsserted = true := by decide +kernel

theorem test_selfCheck :
    (after (.selfCheck (.wordFailed .holding)) State.reset).failedAreas = ⟨false, true, false⟩ ∧
    (after (.selfCheck .resetReleased) (after .deviceReset readyState)).resetAsserted = false := by decide +kernel

theorem test_selfCheckEnd :
    (after .selfCheckEnd State.reset).condition = .ready ∧
    (after .selfCheckEnd (after (.selfCheck (.wordFailed .slot)) State.reset)).mattnReasons = 0x02 := by decide +kernel

theorem test_stageWrite_seventh :
    ((after (.stageWrite 0 7) (port0 (fun q => { q with staging := List.replicate 6 1 }) readyState)).port 0).overflow = true := by decide +kernel

theorem test_submission_refused :
    ((after (.submission 0 0x2240) readyState).port 0).refusalReason = some .offline ∧
    ((after (.submission 0 0x2240) readyState).port 0).refusedTag = 9 := by decide +kernel

theorem test_submission_accepted :
    ((after (.submission 0 (headerWord .readLines 9)) (port0 (fun q => { q with mode := .online }) readyState)).port 0).intake =
      [⟨.readLines, 9, []⟩] := by decide +kernel

theorem test_attach :
    ((after (.attach 2 6) readyState).port 2).mode = .online ∧ ((after (.attach 2 6) readyState).port 2).responses = [⟨6, .done, []⟩] := by decide +kernel

theorem test_responseRead :
    ((after (.responseRead 2) (after (.attach 2 6) readyState)).port 2).dataOut = 0xB000 ∧
    ((after (.responseRead 2) (after (.attach 2 6) readyState)).port 2).outstanding = [] := by decide +kernel

theorem test_attentionEnables :
    (after (.attentionEnables 2 1) (after (.attach 2 6) readyState)).attnAsserted 2 = true := by decide +kernel

theorem test_clearRefusal :
    ((after (.clearRefusal 0 4) (after (.submission 0 0x2240) readyState)).port 0).refusalFlag = false ∧
    ((after (.clearRefusal 0 4) (after (.submission 0 0x2240) readyState)).port 0).refusalReason = some .offline := by decide +kernel

theorem test_clearStaging :
    ((after (.clearStaging 0 8) (after (.stageWrite 0 7) readyState)).port 0).staging = [] := by decide +kernel

theorem test_ignoredWrite :
    ((after (.ignoredWrite 0 3 0xFFFF) readyState).port 0) = PortState.reset := by decide +kernel

theorem test_detach :
    ((after (.detach 0) (asking (req .detach []) readyState)).port 0).mode = .draining ∧
    answers (after (.detach 0) (asking (req .detach []) readyState)) = [] := by decide +kernel

/-- Port 0 at its turn with a CANCEL of its waiter under tag 7, the head of the queue, before a waiter of port 2. -/
def cancelState : State :=
  asking (req .cancel [7]) (put (live (.pool { waitedPool with waiters := [⟨0, 7, 5, none, false⟩, ⟨2, 4, 2, none, true⟩] })) readyState)

theorem test_cancel :
    answers (after (.cancel 0) cancelState) = [⟨7, .cancelled, []⟩, ⟨5, .done, []⟩] ∧
    ((after (.cancel 0) cancelState).port 2).responses = [⟨4, .done, [2]⟩] := by decide +kernel

/-- Port 0 with an ENDED entry for handle 17:3 in its changed set. -/
def noticeState : State :=
  asking (req .nextNotice []) { readyState with changed := readyState.changed.set 0 [⟨17, 3, ⟨true, false, false, true⟩⟩] }

theorem test_nextNotice :
    answers (after (.nextNotice 0) noticeState) = [⟨5, .done, [0x1103, 9]⟩] ∧ (after (.nextNotice 0) noticeState).changed[0] = [] := by decide +kernel

theorem test_readLines :
    answers (after (.readLines 0) (asking (req .readLines []) { readyState with lineCounts := readyState.lineCounts.set 1 256 })) =
      [⟨5, .done, [0, 0x8100, 0, 0, 0, 0, 0, 0]⟩] := by decide +kernel

theorem test_limits_counter :
    bodyOf (after (.limits 0) (turnOn (.counter aCounter) .limits [0, 3, 0, 3])) = some (.counter ⟨3, 0, 3, .clip, true, 0, 3⟩) := by decide +kernel

theorem test_limits_flags :
    bodyOf (after (.limits 0) (turnOn (.flags aFlagSet) .limits [3])) = some (.flags { aFlagSet with alertMask := 3 }) := by decide +kernel

theorem test_create :
    answers (after (.create 0) (asking (req .create [2, 0xAC, 0xFFFF, 0x8000, 0x7FFF]) (put (live (.pool aPool)) readyState))) = [⟨5, .done, [0]⟩] ∧
    ((after (.create 0) (asking (req .create [2, 0xAC, 0xFFFF, 0x8000, 0x7FFF]) readyState)).slot 0).record.map (·.body) =
      some (.counter ⟨-1, -32768, 32767, .reject, false, -32768, 32767⟩) := by decide +kernel

theorem test_create_step_128 :
    answers (after (.create 0) (asking (req .create [4, 0xAC, 0, 0x0080, 1, 0]) readyState)) = [⟨5, .badRequest, []⟩] := by decide +kernel

theorem test_retire_held :
    ((after (.retire 0) (turnOn (.pool aPool) .retire [])).slot 2).record.map (·.held) = some (.pending 0 5) ∧
    answers (after (.retire 0) (turnOn (.pool aPool) .retire [])) = [] := by decide +kernel

theorem test_retire_at_once :
    (after (.retire 0) (turnOn (.counter aCounter) .retire [])).slot 2 = ⟨1, none⟩ := by decide +kernel

theorem test_adopt :
    answers (after (.adopt 0) (turnOn (.counter aCounter) .adopt [])) = [⟨5, .owned, []⟩] := by decide +kernel

theorem test_find :
    answers (after (.find 0) (asking (req .find [0x00AB]) (put (live (.pool aPool)) readyState))) = [⟨5, .done, [0x0200]⟩] := by decide +kernel

theorem test_scan :
    answers (after (.scan 0) (asking (req .scan [0xFFAB, 0x00FF, 0x0202]) (put (live (.pool aPool)) readyState))) = [⟨5, .done, [0x0200, 0x00AB]⟩] ∧
    answers (after (.scan 0) (asking (req .scan [0, 0, 0x0101]) (put (live (.pool aPool)) readyState))) = [⟨5, .badRequest, []⟩] := by decide +kernel

theorem test_read :
    answers (after (.read 0) (turnOn (.pool aPool) .read [])) = [⟨5, .done, [0x0200, 0x00AB, 0x1000, 10, 4, 0, 6]⟩] := by decide +kernel

theorem test_watch :
    ((after (.watch 0) (turnOn (.pool aPool) .watch [2])).slot 2).record.map (fun r => r.watch[0]) = some .alert := by decide +kernel

theorem test_assignLine :
    (after (.assignLine 0) (turnOn (.pool aPool) .assignLine [0x0112])).lineCounts.toList = [0, 0, 1, 0, 0, 0, 0, 0] := by decide +kernel

theorem test_acquire :
    bodyOf (after (.acquire 0) (turnOn (.pool aPool) .acquire [4])) = some (.pool ⟨10, 0, 0, [⟨0, 10⟩], []⟩) ∧
    answers (after (.acquire 0) (turnOn (.pool aPool) .acquire [5])) = [⟨5, .short, []⟩] := by decide +kernel

theorem test_acquireWait :
    bodyOf (after (.acquireWait 0) (turnOn (.pool aPool) .acquireWait [5, 4095])) =
      some (.pool { aPool with waiters := [⟨0, 5, 5, some 4095, false⟩] }) ∧
    (after (.acquireWait 0) (turnOn (.pool aPool) .acquireWait [5, 4095])).freeWaiters = 23 := by decide +kernel

theorem test_release_cascades :
    bodyOf (after (.release 0) (turnOn (.pool waitedPool) .release [6])) = some (.pool ⟨10, 3, 0, [⟨1, 5⟩, ⟨2, 2⟩], []⟩) ∧
    answers (after (.release 0) (turnOn (.pool waitedPool) .release [6])) = [⟨5, .done, [3]⟩] := by decide +kernel

theorem test_restock_down :
    bodyOf (after (.restock 0) (turnOn (.pool { waitedPool with stock := 8, level := 2 }) .restock [0xFFFE])) = some (.pool ⟨6, 0, 0, [⟨0, 6⟩], waitedPool.waiters⟩) := by decide +kernel

theorem test_restock_down_ends :
    ((after (.restock 0) (turnOn (.pool { waitedPool with stock := 6, holdings := [⟨0, 2⟩] }) .restock [0xFFFE])).port 1).responses = [⟨3, .short, []⟩] ∧
    ((after (.restock 0) (turnOn (.pool { waitedPool with stock := 6, holdings := [⟨0, 2⟩] }) .restock [0xFFFE])).port 2).responses = [⟨4, .done, [0]⟩] := by decide +kernel

theorem test_readHolders :
    answers (after (.readHolders 0) (turnOn (.pool waitedPool) .readHolders [])) = [⟨5, .done, [6, 0, 0, 0, 2]⟩] := by decide +kernel

theorem test_add_clips :
    bodyOf (after (.add 0) (turnOn (.counter aCounter) .add [0x7FFF])) = some (.counter { aCounter with value := 20, limitFlag := true }) := by decide +kernel

theorem test_set :
    answers (after (.set 0) (turnOn (.counter { aCounter with policy := .reject }) .set [0xFFF5])) = [⟨5, .limit, [5, 0x000A]⟩] := by decide +kernel

theorem test_compareSet :
    answers (after (.compareSet 0) (turnOn (.counter aCounter) .compareSet [6, 1])) = [⟨5, .mismatch, [5, 0x0009]⟩] := by decide +kernel

theorem test_clearLimit :
    bodyOf (after (.clearLimit 0) (turnOn (.counter { aCounter with limitFlag := true }) .clearLimit [])) = some (.counter aCounter) := by decide +kernel

theorem test_setFlags :
    answers (after (.setFlags 0) (turnOn (.flags aFlagSet) .setFlags [0x8003])) = [⟨5, .done, [0x8003, 2]⟩] := by decide +kernel

theorem test_clearFlags :
    answers (after (.clearFlags 0) (turnOn (.flags aFlagSet) .clearFlags [0xFFFF])) = [⟨5, .done, [2, 2]⟩] := by decide +kernel

theorem test_toggleFlags :
    answers (after (.toggleFlags 0) (turnOn (.flags aFlagSet) .toggleFlags [0x8001])) = [⟨5, .done, [0x8002, 0]⟩] := by decide +kernel

theorem test_claim :
    answers (after (.claim 0) (turnOn (.flags aFlagSet) .claim [0x0017])) = [⟨5, .done, [2, 7]⟩] := by decide +kernel

theorem test_unclaim :
    bodyOf (after (.unclaim 0) (turnOn (.flags aFlagSet) .unclaim [1])) = some (.flags ⟨1, Vector.replicate 16 none, 0⟩) := by decide +kernel

theorem test_next_wraps :
    bodyOf (after (.next 0) (turnOn (.sequence aSequence) .next [2])) = some (.sequence ⟨8, 5, 98, 0⟩) ∧
    answers (after (.next 0) (turnOn (.sequence aSequence) .next [2])) = [⟨5, .done, [0xFFFE, 98]⟩] := by decide +kernel

theorem test_refill :
    bodyOf (after (.refill 0) (turnOn (.sequence aSequence) .refill [0])) = some (.sequence { aSequence with remaining := 0 }) := by decide +kernel

theorem test_grant :
    bodyOf (after (.grant 2) (put (live (.pool { waitedPool with level := 7, waiters := [⟨1, 3, 5, none, true⟩] })) readyState)) =
      some (.pool ⟨10, 2, 0, [⟨0, 6⟩, ⟨1, 5⟩], []⟩) := by decide +kernel

theorem test_drainCompletion :
    ((after (.drainCompletion 2) (put { live (.counter aCounter) with state := .closing, held := .pending 0 9 } readyState)).port 0).responses =
      [⟨9, .done, []⟩] := by decide +kernel

theorem test_unitBoundary :
    bodyOf (after .unitBoundary (put (live (.pool waitedPool)) readyState)) = some (.pool { waitedPool with waiters := [⟨1, 3, 5, some 0, true⟩, ⟨2, 4, 2, none, true⟩] }) ∧
    (after .unitBoundary (put (live (.pool waitedPool)) readyState)).expiryEvents = [(2, 0)] := by decide +kernel

theorem test_expiry :
    bodyOf (after (.expiry 2 0) (after .unitBoundary (put (live (.pool waitedPool)) readyState))) = some (.pool ⟨10, 2, 0, [⟨0, 6⟩, ⟨2, 2⟩], []⟩) ∧
    ((after (.expiry 2 0) (after .unitBoundary (put (live (.pool waitedPool)) readyState))).port 1).responses = [⟨3, .timeout, []⟩] := by decide +kernel

theorem test_prstAssertion :
    (after (.prstAssertion 1) readyState).mattnReasons = 0x08 ∧ ((after (.prstAssertion 1) readyState).port 1).mode = .offline := by decide +kernel

/-- Port 0 DRAINING with its cursor at slot `n`. -/
def walkingState (n : Nat) : State :=
  port0 (fun q => { q with mode := .draining }) (put (live (.pool waitedPool)) { readyState with cursors := readyState.cursors.set 0 n })

theorem test_walkStep :
    bodyOf (after .walkStep (walkingState 2)) = some (.pool ⟨10, 3, 0, [⟨1, 5⟩, ⟨2, 2⟩], []⟩) ∧
    ((after .walkStep (walkingState 2)).slot 2).record.map (·.owner) = some none := by decide +kernel

theorem test_walkStep_last :
    ((after .walkStep (walkingState 255)).port 0).mode = .offline ∧ (after .walkStep (walkingState 255)).mattnReasons = 0x04 := by decide +kernel

theorem test_frameStart :
    (after .frameStart readyState).frame = .command := by decide +kernel

theorem test_frameEnd :
    (after .frameEnd (framed .purge readyState)).frame = .idle := by decide +kernel

theorem test_unknownCommand :
    linkReply (after (.unknownCommand 0x33) (framed .status readyState)) = some (.range, []) := by decide +kernel

theorem test_status :
    linkReply (after .status (framed .status readyState)) = some (.ok, [1, 0, 0, 0]) := by decide +kernel

theorem test_counts :
    linkReply (after .counts (framed .counts (put (live (.counter aCounter)) readyState))) = some (.ok, [1, 0x80, 24, 0, 1, 0, 0, 1]) := by decide +kernel

theorem test_readRecord :
    linkReply (after (.readRecord 2) (framed .readRecord (put (live (.sequence aSequence)) readyState))) =
      some (.ok, [17, 1, 0, 0, 0xAB, 4, 0, 0xFF, 0, 0, 0, 0xFF, 0xFE, 5, 0, 100, 0, 0]) := by decide +kernel

theorem test_purge :
    (after (.purge (.atOnce 2)) (framed .purge (put (live (.counter aCounter)) readyState))).slot 2 = ⟨1, none⟩ ∧
    linkReply (after (.purge (.atOnce 3)) (framed .purge (put (live (.counter aCounter)) readyState))) = some (.range, []) := by decide +kernel

theorem test_purge_deferred :
    linkReply (after (.purge .work) (after (.purge (.deferred 2)) (framed .purge (put (live (.counter aCounter)) readyState)))) = some (.ok, []) := by decide +kernel

theorem test_clearTable :
    (after .clearTable (framed .clearTable readyState)).clear = some 0 ∧ (after .clearTable (framed .clearTable readyState)).turn = none := by decide +kernel

theorem test_clearTableSlot :
    (after .clearTableSlot { put (live (.counter aCounter)) readyState with clear := some 2 }).slot 2 = ⟨1, none⟩ ∧
    (after .clearTableSlot { readyState with clear := some 255 }).clear = none := by decide +kernel

theorem test_fence :
    ((after (.fence 0) (framed .fence (port0 (fun q => { q with mode := .online }) readyState))).port 0).mode = .fenced ∧
    linkReply (after (.fence 4) (framed .fence readyState)) = some (.range, []) := by decide +kernel

theorem test_unfence :
    linkReply (after (.unfence 0) (framed .unfence readyState)) = some (.busy, []) := by decide +kernel

theorem test_portReset :
    ((after (.portReset 0) (framed .portReset (port0 (fun q => { q with mode := .fenced }) readyState))).port 0).mode = .draining := by decide +kernel

theorem test_setWaitUnit :
    (after (.setWaitUnit 2) (framed .setWaitUnit readyState)).waitUnit = .ms10 ∧
    linkReply (after (.setWaitUnit 2) (framed .setWaitUnit (put (live (.pool waitedPool)) readyState))) = some (.busy, []) := by decide +kernel

theorem test_setMattnMask :
    (after (.setMattnMask 0x80) (framed .setMattnMask { readyState with mattnReasons := 0x80 })).mattnAsserted = true := by decide +kernel

theorem test_clearMattn :
    (after (.clearMattn 0x81) (framed .clearMattn { readyState with mattnReasons := 0xC0 })).mattnReasons = 0x40 := by decide +kernel

theorem test_commandByte :
    (after (.commandByte 0x10) (framed .status readyState)).frame = .argument .purge := by decide +kernel

theorem test_responsePhaseByte :
    (after (.responsePhaseByte 0) { readyState with frame := .response (some .ok) [0x5A] 1 }).sdo = some 0x5A ∧
    (after (.responsePhaseByte 0) { readyState with frame := .response none [] 0 }).sdo = some 0x5A := by decide +kernel

theorem test_step_front :
    (match step { State.reset with pending := [.selfCheckEnd, .deviceReset] } with | .next t => some (t.condition, t.pending) | _ => none) =
      some (.ready, [.deviceReset]) := by decide +kernel

/-! ### Witnesses: states and operands that meet the hypotheses of the statements -/

/-- Port 0 is at its turn with this request on a record with this body, and the request passes R3 and R4. -/
def meets (body : Body) (c : ReqCode) (words : List Word) : Bool :=
  decide ((turnOn body c words).atTurn 0 c (req c (0x0200 :: words)) [] ∧
    (turnOn body c words).passes 0 (req c (0x0200 :: words)) (live body))

/-- The same with no free holding entry, or no free waiter entry. -/
def meetsFull (holdings waiters : Nat) (body : Body) (c : ReqCode) (words : List Word) : Bool :=
  let s : State := { turnOn body c words with freeHoldings := holdings, freeWaiters := waiters }
  decide (s.atTurn 0 c (req c (0x0200 :: words)) [] ∧ s.passes 0 (req c (0x0200 :: words)) (live body))

/-- Port 0 is at its turn with this request on no handle, over the state `s`. -/
def meetsOn (s : State) (c : ReqCode) (words : List Word) : Bool :=
  decide ((asking (req c words) s).atTurn 0 c (req c words) [])

theorem slot_ready (j : Slot) : readyState.slot j = ⟨0, none⟩ := State.slot_reset j

theorem slot_asking (r : Request) (s : State) (j : Slot) : (asking r s).slot j = s.slot j := rfl

theorem slot_put (rec : Record) (s : State) (j : Slot) :
    (put rec s).slot j = if (2 : Slot) = j then ⟨(s.slot 2).gen, some rec⟩ else s.slot j := State.slot_writeRecord 2 j rec s

/-- The records of a table with `rec` in slot 2 alone. -/
theorem record_put {rec a : Record} {j : Slot} (h : ((put rec readyState).slot j).record = some a) : j = 2 ∧ a = rec := by
  rw [slot_put] at h
  split at h
  · rename_i hj; simp at h; exact ⟨hj.symm, h.symm⟩
  · rw [slot_ready] at h; cases h

theorem witness_IdleStepsAndEventsOutOfPlace :
    State.reset.pending = [] ∧ ({ State.reset with resetAsserted := true } : State).resetAsserted = true ∧
    State.reset.resetAsserted = false ∧ ({ State.reset with unitPos := 9998 } : State).unitPos + 1 < 10000 ∧
    10000 ≤ ({ State.reset with unitPos := 9999 } : State).unitPos + 1 ∧
    ReqCode.taken 0 .read = some (.read 0) ∧ (∀ r rest, ¬State.reset.atTurn 0 .read r rest) ∧
    State.reset.turn ≠ some .walker :=
  ⟨rfl, rfl, rfl, by decide +kernel, by decide +kernel, rfl, fun _ _ h => absurd h.1 (by decide +kernel), by decide +kernel⟩

theorem witness_SelfCheckPassAndEnd :
    State.reset.resetAsserted = false ∧ State.reset.condition = .checking ∧
    State.reset.failedAreas = ⟨false, false, false⟩ ∧ readyState.condition ≠ .checking ∧
    (after (.selfCheck (.wordFailed .waiter)) State.reset).condition = .checking ∧
    (after (.selfCheck (.wordFailed .waiter)) State.reset).failedAreas ≠ ⟨false, false, false⟩ := by decide +kernel

theorem witness_StageAndIgnoredWrites :
    readyState.resetAsserted = false ∧
    ((port0 (fun q => { q with staging := List.replicate 5 0 }) readyState).port 0).staging.length < 6 ∧
    6 ≤ ((port0 (fun q => { q with staging := List.replicate 6 0 }) readyState).port 0).staging.length ∧
    (2 : BitVec 3) = 2 ∧ (7 : BitVec 3) = 7 := by decide +kernel

/-- Port 0 in a mode, with tags outstanding and words staged. -/
def portIn (mode : PortMode) (tags : List Tag) (words : List Word) : State :=
  port0 (fun q => { q with mode := mode, outstanding := tags, staging := words }) readyState

theorem witness_SubmissionChecksInOrder :
    readyState.resetAsserted = false ∧ State.reset.condition = .checking ∧
    ({ State.reset with condition := .failed } : State).condition = .failed ∧ readyState.condition = .ready ∧
    (readyState.port 0).mode = .offline ∧ headerCode (headerWord .read 1) ≠ some .attach ∧
    ((portIn .fenced [] []).port 0).mode = .fenced ∧ ((portIn .draining [] []).port 0).mode = .draining ∧
    ((portIn .online [] []).port 0).mode = .online ∧ headerCode (headerWord .attach 1) = some .attach ∧
    headerLowZero 0x0441 = false ∧ headerCode 0x0000 = none ∧ headerCode 0xA800 = none ∧
    wordCountOk .read ((portIn .online [] []).port 0).staging = false ∧
    headerTag (headerWord .readLines 15) ∈ ((portIn .online [15] []).port 0).outstanding ∧
    headerTag (headerWord .readLines 8) ∉ ((portIn .online [0, 1, 2, 3, 4, 5, 6, 7] []).port 0).outstanding ∧
    8 ≤ ((portIn .online [0, 1, 2, 3, 4, 5, 6, 7] []).port 0).outstanding.length ∧
    headerLowZero (headerWord .readLines 8) = true ∧ headerCode (headerWord .readLines 8) = some .readLines ∧
    ((portIn .online [15] []).port 0).overflow = false ∧ wordCountOk .readLines [] = true := by decide +kernel

theorem witness_AcceptedSubmissionsAndAttach :
    readyState.resetAsserted = false ∧ readyState.condition = .ready ∧
    ((portIn .online [0, 1, 2, 3, 4, 5, 6] [0x0200]).port 0).mode = .online ∧
    headerLowZero (headerWord .read 7) = true ∧ headerCode (headerWord .read 7) = some .read ∧
    ((portIn .online [0, 1, 2, 3, 4, 5, 6] [0x0200]).port 0).overflow = false ∧
    wordCountOk .read ((portIn .online [0, 1, 2, 3, 4, 5, 6] [0x0200]).port 0).staging = true ∧
    headerTag (headerWord .read 7) ∉ ((portIn .online [0, 1, 2, 3, 4, 5, 6] [0x0200]).port 0).outstanding ∧
    ((portIn .online [0, 1, 2, 3, 4, 5, 6] [0x0200]).port 0).outstanding.length < 8 ∧
    (readyState.port 0).mode = .offline ∧ (readyState.port 0).staging = [] ∧ (readyState.port 0).outstanding.length < 8 := by
  decide +kernel

/-- Port 0 with one response of one data word, read up to `n`. -/
def readingState (n : Nat) : State := port0 (fun q => { q with responses := [⟨5, .done, [7]⟩], readPos := n }) readyState

theorem witness_ResponseReadReturnsNextWord :
    (readingState 0).resetAsserted = false ∧ ((readingState 0).port 0).responses = [⟨5, .done, [7]⟩] ∧
    ((readingState 0).port 0).readPos < [(7 : Word)].length ∧ [(7 : Word)].length ≤ ((readingState 1).port 0).readPos := by
  decide +kernel

theorem witness_EmptyResponseReadChangesNothing :
    readyState.resetAsserted = false ∧ (readyState.port 0).responses = [] ∧ (readyState.port 0).readPos = 0 ∧
    (readyState.port 0).mode ≠ .draining ∧
    ([] : List Tag).length ≤ 8 ∧ (readyState.port 0).intake.length ≤ (readyState.port 0).outstanding.length := by
  decide +kernel

theorem witness_ControlWriteSetsEnables : readyState.resetAsserted = false := rfl

theorem witness_PortAccessTouchesItsPortAlone :
    exec (.stageWrite 0 7) readyState = .next (after (.stageWrite 0 7) readyState) ∧
    exec (.responseRead 0) readyState = .next (after (.responseRead 0) readyState) ∧
    exec (.attach 0 1) readyState = .next (after (.attach 0 1) readyState) := ⟨rfl, rfl, rfl⟩

theorem witness_TurnGoesToFirstEligible :
    readyState.inService ∧ readyState.clear = none ∧ (∀ c : Claimant, readyState.eligible c = false) ∧
    (circleFrom (asking (req .readLines []) readyState).rotation)[0]? = some (.port 0) ∧
    (asking (req .readLines []) readyState).eligible (.port 0) = true ∧
    (circleFrom (walkingState 255).rotation)[4]? = some .walker ∧ (walkingState 255).eligible .walker = true ∧
    (∀ p : Port, (walkingState 255).eligible (.port p) = false) ∧ State.reset.condition ≠ .ready := by
  refine ⟨by decide +kernel, rfl, ?_, ?_⟩
  · intro c
    cases c with
    | walker => decide +kernel
    | port p => revert p; decide +kernel
  · decide +kernel

theorem witness_StaleHandleAnsweredStale :
    ReqCode.taken 0 .read = some (.read 0) ∧ ReqCode.read.namesHandle = true ∧ meetsOn readyState .read [0x0200] ∧
    ((asking (req .read [0x0200]) readyState).slot (req .read [0x0200]).target).record = none ∧
    (asking (req .read [0x02FF]) (put (live (.pool aPool)) readyState)).atTurn 0 .read (req .read [0x02FF]) [] ∧
    ((asking (req .read [0x02FF]) (put (live (.pool aPool)) readyState)).slot (req .read [0x02FF]).target).gen ≠
      handleGen ((req .read [0x02FF]).word 0) := by decide +kernel

/-- A CLOSING record of port 1. -/
def closingRecord : Record := { live (.pool aPool) with state := .closing, held := .pending 1 9, owner := some 1 }

theorem witness_KindOwnerAndStateChecks :
    (let s := asking (req .add [0x0200, 1]) (put closingRecord readyState)
     s.atTurn 0 .add (req .add [0x0200, 1]) [] ∧ s.names ((req .add [0x0200, 1]).word 0) closingRecord ∧
       (req .add [0x0200, 1]).fitsKind closingRecord.kind = false) ∧
    (let s := asking (req .restock [0x0200, 1]) (put closingRecord readyState)
     s.atTurn 0 .restock (req .restock [0x0200, 1]) [] ∧ s.names ((req .restock [0x0200, 1]).word 0) closingRecord ∧
       (req .restock [0x0200, 1]).fitsKind closingRecord.kind = true ∧ ReqCode.restock.ownerOnly = true ∧
       closingRecord.owner ≠ some 0) ∧
    (let s := asking (req .acquire [0x0200, 1]) (put closingRecord readyState)
     s.atTurn 0 .acquire (req .acquire [0x0200, 1]) [] ∧ s.names ((req .acquire [0x0200, 1]).word 0) closingRecord ∧
       (req .acquire [0x0200, 1]).fitsKind closingRecord.kind = true ∧ ReqCode.acquire.ownerOnly = false ∧
       closingRecord.state = .closing ∧ ReqCode.acquire.allowedClosing = false) := by decide +kernel

theorem witness_RequestsLeaveTheRestAlone :
    ReqCode.taken 0 .acquire = some (.acquire 0) ∧ meetsOn readyState .acquire [0x0200, 1] ∧
    exec (.acquire 0) (asking (req .acquire [0x0200, 1]) readyState) =
      .next (after (.acquire 0) (asking (req .acquire [0x0200, 1]) readyState)) ∧
    (0 : Slot) ≠ (req .acquire [0x0200, 1]).target := ⟨rfl, by decide +kernel, rfl, by decide +kernel⟩

theorem sets_ready : readyState.changedSetsOrdered := by
  intro p
  have : readyState.changed[p.val] = [] := by simp [readyState, State.reset]
  rw [this]
  exact ⟨List.Pairwise.nil, fun e he => by cases he⟩

theorem witness_ChangeReportReachesSetsAndLine :
    (put (live (.pool aPool)) readyState).changedSetsOrdered ∧
    ((put (live (.pool aPool)) readyState).slot 2).record = some (live (.pool aPool)) ∧
    (live (.pool waitedPool)).line = (live (.pool aPool)).line ∧
    (live (.pool aPool)).body.reported = (live (.pool waitedPool)).body.reported ∧
    (live (.pool aPool)).body.reported ≠ (live (.pool { aPool with level := 0 })).body.reported ∧
    (⟨true, false, false, false⟩ : Reasons).keptBy .alert = Reasons.empty ∧
    (⟨true, true, false, false⟩ : Reasons).keptBy .alert ≠ Reasons.empty :=
  ⟨sets_ready, by decide +kernel, by decide +kernel, by decide +kernel, by decide +kernel, by decide +kernel, by decide +kernel⟩

theorem witness_EmptyingASlot :
    (put (live (.pool waitedPool)) readyState).changedSetsOrdered ∧
    ((put (live (.pool waitedPool)) readyState).slot 2).record = some (live (.pool waitedPool)) ∧
    (live (.pool waitedPool)).watch[0] = .off ∧
    ({ live (.pool waitedPool) with watch := Vector.replicate 4 .ended } : Record).watch[3] ≠ .off :=
  ⟨sets_ready, by decide +kernel, by decide +kernel, by decide +kernel⟩

theorem witness_LastCommitmentCompletesTheDrain :
    (let r1 : Record := { closingRecord with body := .pool { aPool with level := 10, holdings := [] } }
     r1.state = .closing ∧ closingRecord.committed = true ∧ r1.committed = false ∧
       (put r1 readyState).inService ∧ ((put r1 readyState).slot 2).record = some r1) ∧
    (live (.pool aPool)).state = .live ∧ (live (.counter aCounter)).committed = false ∧ closingRecord.committed = true := by
  decide +kernel

theorem witness_CreateTakesLowestEmptySlotOrIsRefused :
    (meetsOn readyState .create [1, 0xAC, 0, 0] ∧
      (req .create [1, 0xAC, 0, 0]).createsBody (.pool ⟨0, 0, 0, [], []⟩) ∧
      (∀ (j : Slot) (rec : Record), (readyState.slot j).record = some rec → rec.key ≠ 0xAC) ∧
      (readyState.slot 0).record = none ∧ ∀ j : Slot, j < 0 → (readyState.slot j).record ≠ none) ∧
    (meetsOn readyState .create [5, 0xAC, 0, 0] ∧ ∀ body : Body, ¬(req .create [5, 0xAC, 0, 0]).createsBody body) ∧
    (meetsOn (put (live (.pool aPool)) readyState) .create [4, 0xAB, 0, 127, 0, 0] ∧
      (req .create [4, 0xAB, 0, 127, 0, 0]).createsBody (.sequence ⟨0, 127, 0, 0⟩) ∧
      ((put (live (.pool aPool)) readyState).slot 2).record = some (live (.pool aPool)) ∧
      (live (.pool aPool)).key = 0xAB) ∧
    (let full : State := { readyState with slots := Vector.replicate 256 ⟨0, some (live (.pool aPool))⟩ }
     meetsOn full .create [3, 0xAC, 0, 0] ∧ (req .create [3, 0xAC, 0, 0]).createsBody (.flags ⟨0, Vector.replicate 16 none, 0⟩) ∧
       (∀ (j : Slot) (rec : Record), (full.slot j).record = some rec → rec.key ≠ 0xAC) ∧
       ∀ j : Slot, (full.slot j).record ≠ none) := by
  refine ⟨⟨by decide +kernel, .inl (by decide +kernel), ?_, by decide +kernel, ?_⟩, ⟨by decide +kernel, ?_⟩,
    ⟨by decide +kernel, .inr (.inr (.inr (by decide +kernel))), by decide +kernel, by decide +kernel⟩,
    ⟨by decide +kernel, .inr (.inr (.inl (by decide +kernel))), ?_, ?_⟩⟩
  · intro j rec h; rw [slot_ready] at h; cases h
  · intro j h; exact absurd h (Nat.not_lt_zero _)
  · rintro body (h | h | h | h) <;> exact absurd h.1 (by decide +kernel)
  · intro j rec h
    simp [State.slot] at h
    rw [← h]
    decide
  · intro j h
    simp [State.slot] at h

theorem witness_RetireEmptiesOrHolds :
    (meets (.counter aCounter) .retire [] ∧ (live (.counter aCounter)).committed = false) ∧
    (meets (.pool aPool) .retire [] ∧ (live (.pool aPool)).committed = true) := by decide +kernel

/-- A LIVE orphan. -/
def orphan : Record := { live (.pool aPool) with owner := none }

theorem witness_AdoptAndWatchSetTheirField :
    (let s := asking (req .adopt [0x0200]) (put orphan readyState)
     s.atTurn 0 .adopt (req .adopt [0x0200]) [] ∧ s.passes 0 (req .adopt [0x0200]) orphan ∧ orphan.owner = none) ∧
    (meets (.pool aPool) .adopt [] ∧ (live (.pool aPool)).owner ≠ none) ∧
    (meets (.pool aPool) .watch [3] ∧ ((req .watch [0x0200, 3]).word 1).toNat = 3) ∧
    (meets (.pool aPool) .watch [4] ∧ 3 < ((req .watch [0x0200, 4]).word 1).toNat) ∧
    (let s := asking (req .adopt [0x0200]) (put closingRecord readyState)
     s.atTurn 0 .adopt (req .adopt [0x0200]) [] ∧ s.names ((req .adopt [0x0200]).word 0) closingRecord ∧
       closingRecord.state = .closing) := by decide +kernel

theorem witness_ReadAndReadHoldersGiveTheRecord :
    meets (.pool aPool) .read [] ∧ meets (.counter aCounter) .read [] ∧ meets (.flags aFlagSet) .read [] ∧
    meets (.sequence aSequence) .read [] ∧ meets (.pool waitedPool) .readHolders [] := by decide +kernel

theorem witness_AssignLineMovesTheContribution :
    (meets (.pool aPool) .assignLine [0] ∧ (req .assignLine [0x0200, 0]).word 1 = 0) ∧
    (meets (.pool aPool) .assignLine [0x0117] ∧
      (req .assignLine [0x0200, 0x0117]).word 1 = 0x0100#16 ||| BitVec.ofNat 16 7 ||| 0x0010#16) ∧
    (meets (.pool aPool) .assignLine [7] ∧ (req .assignLine [0x0200, 7]).word 1 ≠ 0 ∧
      ((req .assignLine [0x0200, 7]).word 1).getLsbD 8 = false) ∧
    (meets (.pool aPool) .assignLine [0x0108] ∧ ((req .assignLine [0x0200, 0x0108]).word 1).getLsbD 8 = true ∧
      (req .assignLine [0x0200, 0x0108]).word 1 &&& 0xFEE8#16 ≠ 0) := by decide +kernel

theorem witness_LimitsSetsTheKindsLimits :
    meets (.pool aPool) .limits [65535] ∧ meets (.flags aFlagSet) .limits [0xFFFF] ∧ meets (.sequence aSequence) .limits [0] ∧
    (meets (.counter aCounter) .limits [6, 5, 0, 0] ∧ (5 : Int) < 6) ∧
    (meets (.counter aCounter) .limits [5, 5, 0, 0] ∧ (5 : Int) ≤ aCounter.value ∧ aCounter.value ≤ 5) ∧
    (meets (.counter aCounter) .limits [6, 7, 0, 0] ∧ aCounter.value < 6) ∧
    (meets (.counter aCounter) .limits [3, 4, 0, 0] ∧ 4 < aCounter.value) ∧
    (meets (.counter aCounter) .limits [3, 4, 1, 0] ∧ (0 : Int) < 1) := by decide +kernel

theorem witness_FindAndScanReturnHandles :
    (let s := put (live (.pool aPool)) readyState
     meetsOn s .find [0xAB] ∧ (s.slot 2).record = some (live (.pool aPool)) ∧ (live (.pool aPool)).key = 0xAB ∧
       (∀ (j : Slot) (a : Record), j < 2 → (s.slot j).record = some a → a.key ≠ 0xAB) ∧
       meetsOn s .find [0xAC] ∧ ∀ (i : Slot) (rec : Record), (s.slot i).record = some rec → rec.key ≠ 0xAC) ∧
    (meetsOn readyState .scan [0, 0, 257] ∧ ¬(257 % 512 ≤ 256)) ∧ (meetsOn readyState .scan [0, 0, 0x0A00] ∧ ¬(0x0A00 / 512 % 16 ≤ 4)) ∧
    (meetsOn readyState .scan [0, 0, 0x2000] ∧ ¬(0x2000 < 8192)) ∧
    (meetsOn readyState .scan [0, 0, 256] ∧ ∀ i : Slot, ¬(256 ≤ i.val)) ∧
    (meetsOn (put (live (.pool aPool)) readyState) .scan [0, 0, 0x0202] ∧ 2 ≤ (2 : Slot).val ∧
      (0x0202 / 512 % 16 = (live (.pool aPool)).kind.code) ∧
      ∀ (j : Slot) (a : Record), j < 2 → ¬(((put (live (.pool aPool)) readyState).slot j).record = some a)) := by
  refine ⟨⟨by decide +kernel, by decide +kernel, by decide +kernel, ?_, by decide +kernel, ?_⟩,
    ⟨by decide +kernel, by decide⟩, ⟨by decide +kernel, by decide⟩, ⟨by decide +kernel, by decide⟩,
    ⟨by decide +kernel, fun i h => absurd i.isLt (by omega)⟩, by decide +kernel, by decide, by decide +kernel, ?_⟩
  · intro j a hj h; have := (record_put h).1; subst this; exact absurd hj (lt_irrefl _)
  · intro j a h; rw [(record_put h).2]; decide
  · intro j a hj h; have := (record_put h).1; subst this; exact absurd hj (lt_irrefl _)

/-- A POOL all of whose held units are port 1's. -/
def othersPool : Pool := ⟨10, 4, 0, [⟨1, 6⟩], []⟩

theorem witness_AcquireTakesUnitsOrIsRefused :
    meets (.pool aPool) .acquire [0] ∧ (meets (.pool aPool) .acquire [5] ∧ aPool.level < 5) ∧
    (meets (.pool waitedPool) .acquire [1] ∧ waitedPool.waiters ≠ []) ∧
    (meetsFull 0 24 (.pool othersPool) .acquire [4] ∧ othersPool.waiters = [] ∧ 4 ≤ othersPool.level ∧
      othersPool.lists 0 = false) ∧
    (meets (.pool aPool) .acquire [4] ∧ aPool.waiters = [] ∧ 4 ≤ aPool.level ∧ aPool.lists 0 = true) ∧
    ((∀ x ∈ [(⟨1, 6⟩ : Holding)], x.port ≠ 3) ∧ (⟨3, 1⟩ : Holding).port = 3) := by decide +kernel

theorem witness_AcquireWaitServesQueuesOrRefuses :
    (meets (.pool aPool) .acquireWait [0, 0] ∧ meets (.pool aPool) .acquireWait [1, 4096] ∧ 4095 < 4096) ∧
    (meets (.pool aPool) .acquireWait [11, 4095] ∧ aPool.stock < 11) ∧
    (meets (.pool aPool) .acquireWait [4, 0] ∧ aPool.waiters = [] ∧ 4 ≤ aPool.level ∧ aPool.lists 0 = true) ∧
    (meetsFull 0 24 (.pool othersPool) .acquireWait [4, 0] ∧ othersPool.lists 0 = false) ∧
    (meetsFull 384 0 (.pool othersPool) .acquireWait [5, 0] ∧ othersPool.level < 5) ∧
    (meetsFull 0 24 (.pool othersPool) .acquireWait [10, 0] ∧ 10 ≤ othersPool.stock) ∧
    (meets (.pool othersPool) .acquireWait [10, 4095] ∧ readyState.freeWaiters ≠ 0 ∧ readyState.freeHoldings ≠ 0) := by
  decide +kernel

theorem witness_ReleaseReturnsUnitsAndCascades :
    meets (.pool aPool) .release [0] ∧ (meets (.pool aPool) .release [7] ∧ aPool.unitsOf 0 < 7) ∧
    (meets (.pool aPool) .release [6] ∧ aPool.unitsOf 0 = 6 ∧ ∀ w ∈ aPool.waiters, w.port ≠ 0) ∧
    (meets (.pool aPool) .release [5] ∧ 5 < aPool.unitsOf 0 ∧ aPool.holdings = [] ++ ⟨0, 6⟩ :: []) ∧
    (let b : Pool := { aPool with waiters := [⟨1, 3, 5, none, true⟩, ⟨0, 4, 2, none, true⟩] }
     meets (.pool b) .release [6] ∧ b.unitsOf 0 = 6 ∧ ∃ w ∈ b.waiters, w.port = 0 ∧ w.reserved = true) ∧
    (let b : Pool := { aPool with waiters := [⟨1, 3, 5, none, true⟩, ⟨0, 4, 2, none, false⟩, ⟨0, 7, 2, none, false⟩] }
     meets (.pool b) .release [6] ∧ b.unitsOf 0 = 6 ∧
       b.waiters = [⟨1, 3, 5, none, true⟩] ++ ⟨0, 4, 2, none, false⟩ :: [⟨0, 7, 2, none, false⟩] ∧
       (∀ v ∈ [(⟨1, 3, 5, none, true⟩ : Waiter)], v.port ≠ 0) ∧ ∀ v ∈ b.waiters, v.port = 0 → v.reserved = false) := by
  decide +kernel

theorem witness_RestockMovesStockAndLevel :
    meets (.pool aPool) .restock [0] ∧
    (meets (.pool { aPool with stock := 65535 }) .restock [1] ∧ 65535 < 65535 + 1) ∧
    (meets (.pool { aPool with stock := 65534 }) .restock [1] ∧ 65534 + 1 ≤ 65535) ∧
    (meets (.pool aPool) .restock [0xFFFB] ∧ (0xFFFB : Word).toInt = -5 ∧ aPool.level < 5) ∧
    (meets (.pool aPool) .restock [0xFFFC] ∧ (0xFFFC : Word).toInt = -4 ∧ 4 ≤ aPool.level) := by decide +kernel

theorem witness_GrantOfTheHeadWaiter :
    (put (live (.pool { waitedPool with level := 5 })) readyState).inService ∧
    ((put (live (.pool { waitedPool with level := 5 })) readyState).slot 2).record =
      some (live (.pool { waitedPool with level := 5 })) ∧
    waitedPool.waiters = ⟨1, 3, 5, some 1, true⟩ :: [⟨2, 4, 2, none, true⟩] ∧
    5 ≤ ({ waitedPool with level := 5 } : Pool).level ∧
    ((⟨1, 3, 5, none, true⟩ : Waiter).port = 1 ∧ (⟨1, 3, 5, none, true⟩ : Waiter).reserved = true ∧
      (∀ u ∈ [(⟨1, 6, 1, none, false⟩ : Waiter)], ¬(u.port = 1 ∧ u.reserved = true)) ∧
      ∀ x ∈ [(⟨0, 6⟩ : Holding)], x.port ≠ 1) := by decide +kernel

theorem witness_CascadeGrantsFromTheFront :
    (let b : Pool := ⟨10, 2, 0, [⟨1, 6⟩, ⟨3, 2⟩], []⟩
     b.holdings = [⟨1, 6⟩] ++ ⟨3, 2⟩ :: [] ∧ (∀ x ∈ [(⟨1, 6⟩ : Holding)], x.port ≠ 3) ∧ b.unitsOf 3 = 2 ∧ b.heldUnits = 8) ∧
    othersPool.lists 0 = false := by decide +kernel

theorem witness_EndedWaitersLeaveTheQueue :
    aPool.lists 0 = true ∧ waitedPool.lists 1 = false ∧
    (Pool.endWaiters (fun w => w.port == 1) waitedPool).waiters = [⟨2, 4, 2, none, true⟩] ∧
    (waitedPool.waiters.filter (fun w => !(w.port == 1)))[0]? = some ⟨2, 4, 2, none, true⟩ ∧ waitedPool.lists 2 = false := by
  decide +kernel

theorem noWaiter_ready (i : Slot) : (readyState.slot i).waiters = [] := by rw [slot_ready]; rfl

theorem witness_CancelEndsThePortsWaiter :
    (meetsOn readyState .cancel [16] ∧ 15 < (16 : Word).toNat) ∧
    (meetsOn readyState .cancel [15] ∧ (15 : Word).toNat = (15 : Tag).toNat ∧
      ∀ i : Slot, ∀ w ∈ (readyState.slot i).waiters, ¬(w.port = 0 ∧ w.tag = 15)) ∧
    (let b : Pool := { waitedPool with waiters := [⟨0, 7, 5, none, false⟩, ⟨2, 4, 2, none, true⟩] }
     (cancelState.slot 2).record = some (live (.pool b)) ∧ b.waiters = [] ++ ⟨0, 7, 5, none, false⟩ :: [⟨2, 4, 2, none, true⟩] ∧
       (∀ v ∈ [] ++ [(⟨2, 4, 2, none, true⟩ : Waiter)], ¬(v.port = 0 ∧ v.tag = 7)) ∧
       ∀ j : Slot, j < 2 → ∀ v ∈ (cancelState.slot j).waiters, ¬(v.port = 0 ∧ v.tag = 7)) ∧
    (let b : Pool := { waitedPool with waiters := [⟨2, 4, 5, none, true⟩, ⟨0, 15, 2, none, false⟩] }
     meetsOn (put (live (.pool b)) readyState) .cancel [15] ∧
       b.waiters = [⟨2, 4, 5, none, true⟩] ++ ⟨0, 15, 2, none, false⟩ :: [] ∧ [(⟨2, 4, 5, none, true⟩ : Waiter)] ≠ []) := by
  refine ⟨by decide +kernel, ⟨by decide +kernel, by decide, ?_⟩, ⟨by decide +kernel, by decide +kernel, by decide, ?_⟩, by decide +kernel⟩
  · intro i w hw; rw [noWaiter_ready] at hw; cases hw
  · intro j hj v hv
    have h1 : cancelState.slot j = readyState.slot j := by
      rw [cancelState, slot_asking, slot_put, if_neg (fun h => absurd (h ▸ hj) (lt_irrefl _))]
    rw [h1, noWaiter_ready] at hv
    cases hv

theorem witness_UnitBoundaryCountsDown :
    ({ readyState with resetAsserted := true } : State).resetAsserted = true ∧ State.reset.resetAsserted = false ∧
    State.reset.condition ≠ .ready ∧ (put (live (.pool waitedPool)) readyState).inService ∧
    ((put (live (.pool waitedPool)) readyState).slot 2).record = some (live (.pool waitedPool)) := by decide +kernel

/-- An expiry event of slot 2, generation 0, is to be taken on a POOL with this body. -/
def expiring (b : Pool) : State := { put (live (.pool b)) readyState with expiryEvents := [(2, 0)] }

theorem witness_ExpiryEndsWaitersAtZero :
    (({ readyState with expiryEvents := [(2, 0)] } : State).inService ∧
      (2, 0) ∈ ({ readyState with expiryEvents := [(2, 0)] } : State).expiryEvents ∧ (readyState.slot 2).record = none) ∧
    (let b : Pool := { waitedPool with waiters := [⟨1, 3, 5, some 0, true⟩, ⟨2, 4, 2, none, true⟩] }
     (expiring b).inService ∧ ((expiring b).slot 2).record = some (live (.pool b)) ∧ ((expiring b).slot 2).gen = 0 ∧
       b.waiters.head? = some ⟨1, 3, 5, some 0, true⟩) ∧
    (let b : Pool := { waitedPool with waiters := [⟨1, 3, 5, some 1, true⟩, ⟨2, 4, 2, some 0, true⟩] }
     ((expiring b).slot 2).record = some (live (.pool b)) ∧ ∀ w, b.waiters.head? = some w → w.timeout ≠ some 0) := by
  refine ⟨by decide +kernel, by decide +kernel, by decide +kernel, ?_⟩
  intro w hw
  have : w = ⟨1, 3, 5, some 1, true⟩ := by simpa using hw.symm
  subst this
  decide

theorem witness_CounterRequestsApplyTheirTarget :
    aCounter.floor ≤ aCounter.ceiling ∧ ReqCode.taken 0 .add = some (.add 0) ∧
    (meets (.counter aCounter) .add [15] ∧ aCounter.value + 15 ≤ aCounter.ceiling) ∧
    (meets (.counter aCounter) .add [16] ∧ aCounter.ceiling < aCounter.value + 16 ∧ aCounter.policy = .clip) ∧
    (meets (.counter { aCounter with policy := .reject }) .set [0xFFF5] ∧ (0xFFF5 : Word).toInt < aCounter.floor) ∧
    (meets (.counter aCounter) .set [0xFFF5] ∧ (0xFFF5 : Word).toInt < aCounter.floor) ∧
    (meets (.counter aCounter) .compareSet [5, 0xFFF6] ∧ aCounter.value = 5 ∧ aCounter.floor ≤ (0xFFF6 : Word).toInt) ∧
    (meets (.counter aCounter) .compareSet [6, 0] ∧ aCounter.value ≠ 6) ∧ meets (.counter aCounter) .clearLimit [] := by
  decide +kernel

theorem witness_FlagRequestsRespectClaims :
    (meets (.flags aFlagSet) .setFlags [0x8003] ∧ (0x8003 : Word).getLsbD 15 = true ∧ aFlagSet.claimants[15] = none ∧
      aFlagSet.claimants[1] ≠ none ∧ (0x8003 : Word).getLsbD 14 = false) ∧
    meets (.flags aFlagSet) .clearFlags [0xFFFF] ∧ meets (.flags aFlagSet) .toggleFlags [0xFFFF] ∧
    (meets (.flags aFlagSet) .claim [3] ∧ ∀ n : FlagNo, (3 : Word).getLsbD n.val = true → aFlagSet.flags.getLsbD n.val = true) ∧
    (meets (.flags aFlagSet) .claim [0x8003] ∧ (0x8003 : Word).getLsbD 15 = true ∧ aFlagSet.flags.getLsbD 15 = false ∧
      ∀ m : FlagNo, m < 15 → (0x8003 : Word).getLsbD m.val = true → aFlagSet.flags.getLsbD m.val = true) ∧
    (meets (.flags aFlagSet) .unclaim [16] ∧ 15 < (16 : Word).toNat) ∧
    (meets (.flags aFlagSet) .unclaim [15] ∧ aFlagSet.claimants[15] ≠ some 0) ∧
    (meets (.flags aFlagSet) .unclaim [1] ∧ aFlagSet.claimants[1] = some 0) := by decide +kernel

theorem witness_NextIssuesAndRefillSets :
    meets (.sequence aSequence) .next [0] ∧ (meets (.sequence aSequence) .next [256] ∧ 255 < (256 : Word).toNat) ∧
    (meets (.sequence aSequence) .next [101] ∧ aSequence.remaining < 101) ∧
    (meets (.sequence { aSequence with remaining := 255 }) .next [255] ∧ (255 : Word).toNat ≤ 255) ∧
    meets (.sequence aSequence) .refill [65535] := by decide +kernel

theorem sets_notice : noticeState.changedSetsOrdered := by
  intro p
  revert p
  have h : ∀ p : Port, noticeState.changed[p.val] = [] ∨ noticeState.changed[p.val] = [⟨17, 3, ⟨true, false, false, true⟩⟩] := by
    decide +kernel
  intro p
  rcases h p with h | h <;> rw [h]
  · exact ⟨List.Pairwise.nil, fun e he => by cases he⟩
  · exact ⟨List.pairwise_singleton _ _, fun e he => by
      have : e = ⟨17, 3, ⟨true, false, false, true⟩⟩ := by simpa using he
      subst this; decide⟩

theorem witness_NoticesAndLineCountsAreRead :
    meetsOn readyState .nextNotice [] ∧ readyState.changedSetsOrdered ∧ readyState.changed[0] = [] ∧
    noticeState.atTurn 0 .nextNotice (req .nextNotice []) [] ∧ noticeState.changedSetsOrdered ∧
    noticeState.changed[0] = [⟨17, 3, ⟨true, false, false, true⟩⟩] ∧
    (let s : State := { readyState with lineCounts := readyState.lineCounts.set 7 256 }
     meetsOn s .readLines [] ∧ s.lineCounts[7] ≤ 256) :=
  ⟨by decide +kernel, sets_ready, by decide +kernel, by decide +kernel, sets_notice, by decide +kernel, by decide +kernel⟩

theorem witness_PortResetByMode :
    readyState.resetAsserted = false ∧ ((portIn .draining [] []).port 0).mode = .draining ∧
    (readyState.port 0).mode = .offline ∧ ((portIn .online [] []).port 0).mode = .online ∧
    ((portIn .fenced [] []).port 0).mode = .fenced ∧ meetsOn readyState .detach [] ∧
    (framed .portReset readyState).awaits .portReset ∧ (framed .portReset readyState).executes ∧
    (framed .portReset (portIn .draining [] [])).awaits .portReset ∧ (3 : Byte).toNat = (3 : Port).val := by decide +kernel

theorem witness_EntryIntoDraining :
    ((portIn .online [] []).port 0).mode = .online ∧ ((portIn .fenced [] []).port 0).mode = .fenced ∧
    ((put (live (.pool waitedPool)) readyState).slot 2).record = some (live (.pool waitedPool)) ∧
    ∃ w ∈ waitedPool.waiters, w.port = 1 := by decide +kernel

/-- A POOL on which port 0 heads the queue and port 1, which holds units, waits behind it. -/
def leftPool : Pool := ⟨10, 4, 3, [⟨1, 6⟩], [⟨0, 1, 5, none, true⟩, ⟨1, 2, 4, none, false⟩]⟩

/-- Port 0 ONLINE over a table with that POOL in slot 2. -/
def leavingState : State := port0 (fun q => { q with mode := .online }) (put (live (.pool leftPool)) readyState)

/-- The laws that the clauses on the free counts, the lines and the changed sets start from hold where port 1 is granted. -/
theorem witness_EntryIntoDraining_laws :
    (leavingState.port 0).mode = .online ∧ leavingState.everyRecord (fun rec => rec.body.reservationLaw) ∧
    (∀ x : LineNo, leavingState.lineCounts[x.val] = leavingState.slots.toList.countP (SlotState.contributesTo x)) ∧
    leavingState.changedSetsOrdered ∧ ((Body.pool leftPool).leftBy 0).2 = [(1, ⟨2, .done, [0]⟩)] := by
  refine ⟨by decide +kernel, ?_, by decide +kernel, sets_ready, by decide +kernel⟩
  intro j a h
  rw [(record_put h).2]
  refine ⟨by decide, fun p => ?_⟩
  revert p
  decide +kernel

/-- Port 0 DRAINING with its cursor at slot 2, whose record is `rec`. -/
def walkOver (rec : Record) : State :=
  port0 (fun q => { q with mode := .draining }) (put rec { readyState with cursors := readyState.cursors.set 0 2 })

theorem witness_WalkStepActsOnOneSlot :
    ((walkingState 255).turn = some .walker ∧ ((walkingState 255).port 0).mode = .draining ∧
      (walkingState 255).cursors[0] = (255 : Slot).val ∧ ((walkingState 255).slot 255).record = none ∧
      ∀ q : Port, (q.val + 4 - (walkingState 255).servicePos.val) % 4 < ((0 : Port).val + 4 - (walkingState 255).servicePos.val) % 4 →
        ¬(((walkingState 255).port q).mode = .draining ∧ (walkingState 255).cursors[q.val] < 256)) ∧
    ((walkOver (live (.pool aPool))).turn = some .walker ∧ (walkOver (live (.pool aPool))).cursors[0] = (2 : Slot).val ∧
      ((walkOver (live (.pool aPool))).slot 2).record = some (live (.pool aPool)) ∧ aPool.lists 0 = true) ∧
    (((walkOver (live (.pool othersPool))).slot 2).record = some (live (.pool othersPool)) ∧ othersPool.lists 0 = false) ∧
    ((walkOver (live (.flags aFlagSet))).slot 2).record = some (live (.flags aFlagSet)) ∧
    ((walkOver (live (.counter aCounter))).slot 2).record = some (live (.counter aCounter)) ∧
    ((walkOver (live (.sequence aSequence))).slot 2).record = some (live (.sequence aSequence)) := by decide +kernel

theorem witness_AdoptAndWatch_walkStep :
    (walkOver (live (.pool aPool))).turn = some .walker ∧ ((walkOver (live (.pool aPool))).port 0).mode = .draining ∧
    (walkOver (live (.pool aPool))).cursors[0] = (2 : Slot).val ∧
    (∀ q : Port, (q.val + 4 - (walkOver (live (.pool aPool))).servicePos.val) % 4 <
        ((0 : Port).val + 4 - (walkOver (live (.pool aPool))).servicePos.val) % 4 →
      ¬(((walkOver (live (.pool aPool))).port q).mode = .draining ∧ (walkOver (live (.pool aPool))).cursors[q.val] < 256)) ∧
    ((walkOver (live (.pool aPool))).slot 2).record = some (live (.pool aPool)) ∧ (live (.pool aPool)).owner = some 0 ∧
    ((walkOver { live (.pool aPool) with owner := some 3 }).slot 2).record =
      some { live (.pool aPool) with owner := some 3 } := by decide +kernel

theorem witness_FramesFollowTheirPhases :
    readyState.chipSelect = false ∧ readyState.resetAsserted = false ∧
    ({ readyState with resetAsserted := true } : State).resetAsserted = true ∧ (framed .status readyState).chipSelect = true ∧
    (framed .status readyState).frame = .command ∧ (framed .status readyState).purgeSlot = none ∧
    LinkCommand.ofByte 0x00 = none ∧ LinkCommand.ofByte 0x03 = some .readRecord ∧ LinkCommand.readRecord.argCount = 1 ∧
    LinkCommand.ofByte 0x11 = some .clearTable ∧ LinkCommand.clearTable.argCount = 0 ∧
    ({ readyState with frame := .response none [] 0 } : State).frame = .response none [] 0 ∧
    ({ readyState with frame := .response (some .ok) [7] 1 } : State).frame = .response (some .ok) [7] 1 ∧
    1 ≤ [(7 : Byte)].length ∧ [(7 : Byte)].length < 2 := by decide +kernel

theorem witness_LinkChecksBeforeACommand :
    (framed .counts State.reset).awaits .counts ∧ (framed .counts State.reset).condition = .checking ∧
    (framed .purge { readyState with condition := .failed }).awaits .purge ∧
    (framed .purge { readyState with condition := .failed }).condition = .failed ∧
    (framed .fence { readyState with clear := some 255 }).awaits .fence ∧
    (framed .fence { readyState with clear := some 255 }).clear ≠ none := by decide +kernel

theorem witness_ReadingCommandsChangeNothing :
    (framed .status State.reset).awaits .status ∧ (framed .counts readyState).awaits .counts ∧
    (framed .counts readyState).condition = .ready ∧ (framed .readRecord readyState).awaits .readRecord ∧
    (framed .readRecord readyState).executes ∧ ((framed .readRecord readyState).slot (Fin.ofNat 256 2)).record = none ∧
    ∀ body ∈ [Body.pool waitedPool, .counter aCounter, .flags aFlagSet, .sequence aSequence],
      (framed .readRecord (put (live body) readyState)).awaits .readRecord ∧
      ((framed .readRecord (put (live body) readyState)).slot (Fin.ofNat 256 2)).record = some (live body) := by decide +kernel

theorem witness_PurgeAndClearTableEmptySlots :
    ((framed .purge readyState).awaits .purge ∧ (framed .purge readyState).executes ∧
      ((framed .purge readyState).slot 255).record = none) ∧
    ((framed .purge (put (live (.pool aPool)) readyState)).awaits .purge ∧
      ((framed .purge (put (live (.pool aPool)) readyState)).slot 2).record = some (live (.pool aPool))) ∧
    ((framed .fence { readyState with purgeSlot := some 2 }).purgeSlot = some 2 ∧
      (framed .fence { readyState with purgeSlot := some 2 }).frame = .argument .fence ∧
      (framed .purge { readyState with purgeSlot := some 2 }).frame = .argument .purge ∧
      (framed .status { readyState with purgeSlot := some 2 }).frame = .command ∧ LinkCommand.ofByte 0x00 = none) ∧
    ((framed .clearTable readyState).awaits .clearTable ∧ (framed .clearTable readyState).executes) ∧
    ({ readyState with clear := some 254 } : State).clear = some 254 ∧ (254 : Slot).val < 255 ∧ (255 : Slot).val = 255 := by
  decide +kernel

theorem witness_PortClockAndMattnCommands :
    ((framed .fence (portIn .online [] [])).executes ∧ (framed .fence (portIn .online [] [])).awaits .fence ∧
      ((framed .fence (portIn .online [] [])).port 0).mode = .online) ∧
    ((framed .unfence (portIn .fenced [] [])).awaits .unfence ∧ ((framed .unfence (portIn .fenced [] [])).port 0).mode = .fenced) ∧
    4 ≤ (4 : Byte).toNat ∧ (3 : Byte).toNat = (3 : Port).val ∧ (framed .portReset readyState).awaits .portReset ∧
    ((framed .setWaitUnit readyState).awaits .setWaitUnit ∧ 3 ≤ (3 : Byte).toNat ∧ (2 : Byte).toNat = WaitUnit.ms10.code) ∧
    ((framed .setWaitUnit (put (live (.pool waitedPool)) readyState)).slot 2).waiters ≠ [] ∧
    ((framed .setMattnMask { readyState with condition := .failed }).awaits .setMattnMask ∧
      (framed .setMattnMask { readyState with condition := .failed }).clear = none) ∧
    (framed .clearMattn readyState).awaits .clearMattn := by decide +kernel

theorem witness_PortClock_noWaiter (i : Slot) : ((framed .setWaitUnit readyState).slot i).waiters = [] := noWaiter_ready i

theorem witness_WordsReadBackAsWritten :
    (let q : PortState := { PortState.reset with
       outstanding := List.replicate 8 0
       intake := List.replicate 7 (req .read [])
       responses := [⟨0, .done, []⟩]
       mode := .fenced }
     q.outstanding.length ≤ 8 ∧ q.intake.length ≤ q.outstanding.length ∧ q.responses ≠ [] ∧
       q.intake.length < q.outstanding.length ∧ q.mode = .fenced) ∧
    PortState.reset.intake.length ≤ PortState.reset.outstanding.length ∧
    (req .acquire [0x0200, 7]).words[1]? = some 7 ∧ (responseHeader true 15 .none 9).toNat = 32768 + 15 * 2048 + 22 * 32 + 9 := by decide +kernel

/-! ### Witnesses of the laws: a table that is not empty -/

/-- READY with a POOL in slot 2 that port 0 owns and holds, no port waiting. -/
def lawfulState : State :=
  { put (live (.pool aPool)) readyState with
    freeHoldings := 383
    ports := readyState.ports.set 0 { PortState.reset with mode := .online } }

theorem slot_lawful (j : Slot) : lawfulState.slot j = if (2 : Slot) = j then ⟨0, some (live (.pool aPool))⟩ else ⟨0, none⟩ := by
  have h := slot_put (live (.pool aPool)) readyState j
  rw [slot_ready, slot_ready] at h
  exact h

theorem record_lawful {j : Slot} {a : Record} (h : (lawfulState.slot j).record = some a) : j = 2 ∧ a = live (.pool aPool) := by
  rw [slot_lawful] at h
  split at h
  · rename_i hj; simp at h; exact ⟨hj.symm, h.symm⟩
  · cases h

theorem witness_BodiesStayLegal : lawfulState.bodiesLegal ∧ step lawfulState = .next lawfulState.tick := by
  refine ⟨fun i r h => ?_, rfl⟩
  rw [(record_lawful h).2]
  exact ⟨by decide, by decide, by decide, by decide, by decide, fun w hw => by cases hw⟩

theorem witness_LifecyclesAndKeysKept : lawfulState.lifecycles ∧ lawfulState.keysDistinct := by
  refine ⟨fun i r h => ?_, fun i j a b ha hb _ => (record_lawful ha).1.trans (record_lawful hb).1.symm⟩
  rw [(record_lawful h).2]
  exact ⟨by decide, fun h => by cases h⟩

theorem witness_HeadsStayBlocked : lawfulState.headsBlocked := by
  intro i r h
  rw [(record_lawful h).2]
  intro w hw
  cases hw

theorem witness_EntriesStayAccounted : lawfulState.entriesAccounted := by
  refine ⟨by decide +kernel, by decide +kernel, fun i r h => ?_⟩
  rw [(record_lawful h).2]
  exact ⟨by decide, fun p hp _ => by obtain ⟨w, hw, _⟩ := hp; cases hw⟩

theorem witness_LinesStayCounted : lawfulState.linesCounted := ⟨by decide +kernel, fun h => absurd rfl h⟩

theorem witness_ChangedSetsStayOrdered : lawfulState.changedSetsOrdered := sets_ready

theorem port_lawful (p : Port) :
    lawfulState.port p = PortState.reset ∧ p ≠ 0 ∨ lawfulState.port p = { PortState.reset with mode := .online } ∧ p = 0 := by
  revert p; decide +kernel

theorem witness_PortsStayBounded : lawfulState.portsBounded := by
  intro p
  rcases port_lawful p with ⟨h, _⟩ | ⟨h, _⟩ <;> rw [h] <;>
    exact ⟨by decide, by decide, rfl, fun r hr => by cases hr⟩

theorem witness_WithdrawnPortsHoldNothing : lawfulState.withdrawn := by
  intro p
  rcases port_lawful p with ⟨h, hp⟩ | ⟨h, _⟩
  · have hw : ∀ p : Port, (live (.pool aPool)).watch[p.val] = .off ∧ lawfulState.changed[p.val] = [] ∧
        (p ≠ 0 → aPool.lists p = false ∧ (live (.pool aPool)).owner ≠ some p) := by decide +kernel
    have hq : lawfulState.everyRecord (Record.quietFor p) := by
      intro i r hr
      rw [(record_lawful hr).2]
      exact ⟨(hw p).1, fun t ht => by simp [live] at ht, fun w hw => by cases hw⟩
    have hf : lawfulState.everyRecord (Record.freeOf p) := by
      intro i r hr
      rw [(record_lawful hr).2]
      exact (hw p).2.2 hp
    rw [h]
    exact ⟨fun _ => ⟨rfl, rfl, rfl, (hw p).2.1, hq⟩, fun _ => hf, fun hd => by cases hd⟩
  · rw [h]
    refine ⟨fun hd => ?_, fun hd => ?_, fun hd => ?_⟩
    · rcases hd with hd | hd <;> cases hd
    · cases hd
    · cases hd

theorem witness_ConditionAndResetHoldTheBlocks :
    lawfulState.idleUnlessReady ∧ lawfulState.heldInReset ∧
    (({ State.reset with resetAsserted := true } : State).resetAsserted = true ∧
      ({ State.reset with resetAsserted := true } : State).heldInReset) := by
  refine ⟨⟨fun h => absurd rfl h, fun p hp => ?_⟩, fun h => (by cases h), rfl, fun _ => rfl⟩
  rcases port_lawful p with ⟨h, _⟩ | ⟨h, _⟩ <;> rw [h] at hp <;> cases hp

theorem witness_RequestsStayAccounted : lawfulState.requestsAccounted := by
  refine ⟨fun p => ?_, witness_LifecyclesAndKeysKept.1, witness_WithdrawnPortsHoldNothing, witness_ConditionAndResetHoldTheBlocks.1⟩
  have h : ∀ p : Port, lawfulState.tagsOf p = [] ∧ (lawfulState.port p).outstanding = [] := by decide +kernel
  rw [(h p).1, (h p).2]
  exact ⟨List.Perm.refl _, List.nodup_nil, by decide⟩

end Sys2Proof.Machine.Tests
end

