-- ==== Sys2Proof/Proofs/HeaderFields.lean ====
section
/-! The rules that serve the requests which set one field of a record's header, and ADOPT and WATCH as two of them (O21). -/

namespace Sys2Proof.Machine

/-! ### Writing a record whose body stands -/

/-- With the body kept, the holding and waiter entries in use are the same (R43, R62), so the slot is all that changes. -/
theorem State.writeRecord_sameBody {s : State} {i : Slot} {rec rec' : Record} (hs : (s.slot i).record = some rec)
    (hb : rec'.body = rec.body) : s.writeRecord i rec' = s.holding i rec' := by
  simp [State.writeRecord, State.writeSlot, State.holding, SlotState.entriesUsed, SlotState.waiters, hs, hb]

theorem State.reply_holding (p : Port) (r : Request) (c : ResultCode) (d : List Word) (i : Slot) (rec : Record) (s : State) :
    (s.holding i rec).reply p r c d = (s.reply p r c d).holding i rec := by
  unfold State.reply
  by_cases hm : (s.port p).mode = .draining
  · rw [State.place_draining hm, State.place_draining (by simpa using hm)]
  · rw [State.place_placed hm, State.place_placed (by simpa using hm)]
    rfl

/-- At its turn a request that rewrites the header of a record and is answered DONE does nothing else. -/
theorem State.reply_writeRecord_sameBody {s : State} {p : Port} {c : ReqCode} {r : Request} {rest : List Request}
    {i : Slot} {rec rec' : Record} (h : s.atTurn p c r rest) (hs : (s.slot i).record = some rec)
    (hb : rec'.body = rec.body) :
    ((s.turnTaken p rest).writeRecord i rec').reply p r .done [] =
      (s.answered p rest ⟨r.tag, .done, []⟩).holding i rec' := by
  rw [State.writeRecord_sameBody (s := s.turnTaken p rest) hs hb, State.reply_holding, State.reply_turnTaken h]

/-- A request that R18 does not allow on a CLOSING record, and that no kind or owner check stops, finds CLOSING there. -/
theorem State.withRecord_closing {s : State} {p : Port} {r : Request} {c : CheckSpec} {rec : Record}
    (hn : s.names (r.word 0) rec) (hk : c.kindOk rec.kind = true) (ho : c.ownerOnly = false) (hc : c.onClosing = false)
    (hst : rec.state = .closing) (act : Slot → Record → Port → Request → State → State) :
    s.withRecord c act p r = s.reply p r .closing [] := by
  unfold State.withRecord
  rw [State.checkHandle_names hn]
  simp [hk, ho, hc, hst]

/-! ### ADOPT (R21) -/

theorem exec_adopt_closing {s : State} {p : Port} {r : Request} {rest : List Request} {rec : Record}
    (h : s.atTurn p .adopt r rest) (hn : s.names (r.word 0) rec) (hst : rec.state = .closing) :
    exec (.adopt p) s = .next (s.answered p rest ⟨r.tag, .closing, []⟩) := by
  change Host.Outcome.next (s.onTurn p .adopt _) = _
  rw [State.onTurn_atTurn h, State.withRecord_closing (State.names_turnTaken.2 hn) rfl rfl rfl hst,
    State.reply_turnTaken h]

theorem exec_adopt_passes {s : State} {p : Port} {r : Request} {rest : List Request} {rec : Record}
    (h : s.atTurn p .adopt r rest) (hp : s.passes p r rec) :
    exec (.adopt p) s = .next (actAdopt r.target rec p r (s.turnTaken p rest)) := by
  change Host.Outcome.next (s.onTurn p .adopt _) = _
  rw [State.onTurn_atTurn h, State.withRecord_atTurn h hp _ hp.2.1.symm rfl rfl]

theorem exec_adopt_orphan {s : State} {p : Port} {r : Request} {rest : List Request} {rec : Record}
    (h : s.atTurn p .adopt r rest) (hp : s.passes p r rec) (ho : rec.owner = none) :
    exec (.adopt p) s =
      .next ((s.answered p rest ⟨r.tag, .done, []⟩).holding r.target { rec with owner := some p }) := by
  rw [exec_adopt_passes h hp, actAdopt, if_neg (by simp [ho])]
  exact congrArg _ (State.reply_writeRecord_sameBody h hp.1.2 rfl)

theorem exec_adopt_owned {s : State} {p : Port} {r : Request} {rest : List Request} {rec : Record}
    (h : s.atTurn p .adopt r rest) (hp : s.passes p r rec) (ho : rec.owner ≠ none) :
    exec (.adopt p) s = .next (s.answered p rest ⟨r.tag, .owned, []⟩) := by
  rw [exec_adopt_passes h hp, actAdopt, if_pos (Option.isSome_iff_ne_none.2 ho), State.reply_turnTaken h]

/-! ### WATCH (R25) -/

theorem modeOfWord_eq_some {w : Word} {mode : WatchMode} (h : w.toNat = mode.code) : modeOfWord w = some mode := by
  cases mode <;> simp [modeOfWord, h, WatchMode.code]

theorem modeOfWord_eq_none {w : Word} (h : 3 < w.toNat) : modeOfWord w = none := by
  unfold modeOfWord
  split
  case h_5 => rfl
  all_goals omega

theorem exec_watch_passes {s : State} {p : Port} {r : Request} {rest : List Request} {rec : Record}
    (h : s.atTurn p .watch r rest) (hp : s.passes p r rec) :
    exec (.watch p) s = .next (actWatch r.target rec p r (s.turnTaken p rest)) := by
  change Host.Outcome.next (s.onTurn p .watch _) = _
  rw [State.onTurn_atTurn h, State.withRecord_atTurn h hp _ hp.2.1.symm rfl rfl]

theorem exec_watch_mode {s : State} {p : Port} {r : Request} {rest : List Request} {rec : Record} {mode : WatchMode}
    (h : s.atTurn p .watch r rest) (hp : s.passes p r rec) (hm : (r.word 1).toNat = mode.code) :
    exec (.watch p) s = .next
      ((s.answered p rest ⟨r.tag, .done, []⟩).holding r.target { rec with watch := rec.watch.set p.val mode }) := by
  rw [exec_watch_passes h hp, actWatch, modeOfWord_eq_some hm]
  exact congrArg _ (State.reply_writeRecord_sameBody h hp.1.2 rfl)

theorem exec_watch_noMode {s : State} {p : Port} {r : Request} {rest : List Request} {rec : Record}
    (h : s.atTurn p .watch r rest) (hp : s.passes p r rec) (hm : 3 < (r.word 1).toNat) :
    exec (.watch p) s = .next (s.answered p rest ⟨r.tag, .badRequest, []⟩) := by
  rw [exec_watch_passes h hp, actWatch, modeOfWord_eq_none hm]
  exact congrArg _ (State.reply_turnTaken h _ _)

/-! ### The walk step on a slot with a record (R160, R161) -/

/-- The port `k` places after `c` in the circle of the four ports stands at distance `k` from it. -/
theorem Port.circle_distance (c k : Port) : ((c + k).val + 4 - c.val) % 4 = k.val := by
  revert c k; decide

/-- The port nearest to `c` in the circle among those that meet `f` is the first one found from `c` on. -/
theorem Port.find?_circle {f : Port → Bool} {c p : Port} (hp : f p = true)
    (hbefore : ∀ q : Port, (q.val + 4 - c.val) % 4 < (p.val + 4 - c.val) % 4 → f q = false) :
    [c, c + 1, c + 2, c + 3].find? f = some p := by
  obtain ⟨d, rfl⟩ : ∃ d, p = c + d := ⟨p - c, by simp⟩
  have hskip : ∀ k < d, f (c + k) = false := fun k hk => hbefore _ (by
    rw [Port.circle_distance, Port.circle_distance]; exact hk)
  have hfirst : 0 < d → f c = false := fun hd => by simpa using hskip 0 hd
  match d with
  | 0 => simp [show f c = true by simpa using hp]
  | 1 => simp [hp, hfirst]
  | 2 => simp [hp, hfirst, hskip 1]
  | 3 => simp [hp, hfirst, hskip 1, hskip 2]

theorem State.walking_iff {s : State} {p : Port} :
    s.walking p = true ↔ (s.port p).mode = .draining ∧ s.cursors[p.val] < 256 := by
  rw [State.walking, Bool.and_eq_true, beq_iff_eq, decide_eq_true_eq, Config.slotCount]

/-- The Walker serves the walking port nearest to the service position (R160). -/
theorem State.walkPort_eq_some {s : State} {p : Port} (hp : s.walking p = true)
    (hbefore : ∀ q : Port, (q.val + 4 - s.servicePos.val) % 4 < (p.val + 4 - s.servicePos.val) % 4 → s.walking q = false) :
    s.walkPort = some p :=
  Port.find?_circle hp hbefore

@[simp] theorem State.slot_advanceCursor (p : Port) (n : Nat) (j : Slot) (s : State) :
    (s.advanceCursor p n).slot j = s.slot j := by
  unfold State.advanceCursor
  dsimp only
  split <;> rfl

/-- A walk step changes no slot but through what it reclaims in the one its cursor names. -/
theorem State.slot_walkStepFor {s : State} {p : Port} {i : Slot} (hc : s.cursors[p.val] = i.val) (j : Slot) :
    (s.walkStepFor p).slot j = (s.reclaimSlot p i).slot j := by
  have hi : Fin.ofNat 256 s.cursors[p.val] = i := by
    rw [hc]; exact Fin.ofNat_val_eq_self i
  change ((s.reclaimSlot p (Fin.ofNat 256 s.cursors[p.val])).advanceCursor p s.cursors[p.val]).slot j = _
  rw [State.slot_advanceCursor, hi]

/-- A record that is still in its slot after the walk step for `p` is the one the walk makes of it (R161). -/
theorem State.record_walkStepFor {s : State} {p : Port} {i : Slot} {rec rec1 : Record} (hc : s.cursors[p.val] = i.val)
    (hr : (s.slot i).record = some rec) (h1 : ((s.walkStepFor p).slot i).record = some rec1) : rec1 = rec.reclaim p := by
  rw [State.slot_walkStepFor hc] at h1
  simp only [State.reclaimSlot, hr] at h1
  obtain ⟨-, he, -⟩ | ⟨hne, -⟩ := State.record_finishEvent h1
  · exact he
  · exact absurd rfl hne

theorem exec_walkStep {s : State} {p : Port} (ht : s.turn = some .walker) (hw : s.walkPort = some p) :
    exec .walkStep s = .next ((s.serve .walker).walkStepFor p) := by
  change Host.Outcome.next s.walkTurn = _
  simp only [State.walkTurn, ht, hw, if_true]

end Sys2Proof.Machine

namespace Sys2Proof.Proofs

open Sys2Proof.Machine

/-- Settles O21: the checks of R21 and R25 are read off the request tables; the effect of each request is that of its turn on
the record it names, and the walk step's is what the walk makes of the record in the slot of its cursor. -/
theorem adoptAndWatchSetTheirField : Obligations.AdoptAndWatchSetTheirField := by
  unfold Obligations.AdoptAndWatchSetTheirField
  refine ⟨⟨fun words => ?_, rfl, rfl, fun r k hr => ?_⟩, ⟨fun words => ?_, rfl, rfl, fun r k hr => ?_, ?_, ?_⟩, ?_, ?_⟩
  · simp [wordCountOk]
  · simp [Request.fitsKind, hr]
  · simp [wordCountOk]
  · simp [Request.fitsKind, hr]
  · intro s p r rest rec h hn hst
    exact exec_adopt_closing h hn hst
  · intro s p i rec ht hd hc hbefore hr
    have hp : s.walking p = true := State.walking_iff.2 ⟨hd, hc ▸ i.isLt⟩
    have hw : s.walkPort = some p :=
      State.walkPort_eq_some hp fun q hq => Bool.eq_false_iff.2 fun h => hbefore q hq (State.walking_iff.1 h)
    refine ⟨_, exec_walkStep ht hw, fun rec1 h1 => ?_⟩
    obtain rfl := State.record_walkStepFor (s := s.serve .walker) hc hr h1
    exact ⟨fun ho => if_pos ho, fun ho => if_neg ho⟩
  · intro s p r rest rec h hp
    exact ⟨exec_adopt_orphan h hp, exec_adopt_owned h hp⟩
  · intro s p r rest rec h hp
    refine ⟨fun mode hm => exec_watch_mode h hp ?_, exec_watch_noMode h hp⟩
    cases mode <;> exact hm

end Sys2Proof.Proofs
end

section
/-! The reads of a port window that look at the response queue: what RESPONSE_READ does to its port, the fields of a response
header and the queue number of STATUS, and the read of an empty queue as their use (O9). -/

namespace Sys2Proof.Machine

/-! ### The access -/

/-- Outside device reset a read of RESPONSE acts on its port alone (R144, R145). -/
theorem exec_responseRead {s : State} (h : s.resetAsserted = false) (p : Port) :
    exec (.responseRead p) s = .next (s.modifyPort p PortState.readResponse) := by
  change Host.Outcome.next (s.outOfReset _) = _
  simp [State.outOfReset, h]

/-! ### The word returned -/

/-- The word a read puts on the data pins is the one the window shows, whether or not the read ends a response. -/
@[simp] theorem PortState.dataOut_readResponse (q : PortState) : q.readResponse.dataOut = q.responseWord := by
  unfold PortState.readResponse
  split
  · rfl
  · split <;> rfl

theorem PortState.responseWord_empty {q : PortState} (h : q.responses = []) : q.responseWord = emptyHeader := by
  simp [PortState.responseWord, h]

theorem PortState.responseWord_first {q : PortState} {r : Response} {rest : List Response} (h : q.responses = r :: rest)
    (hpos : q.readPos = 0) : q.responseWord = responseHeader true r.tag r.result r.data.length := by
  simp [PortState.responseWord, h, hpos, Response.toWords]

theorem PortState.readResponse_empty {q : PortState} (h : q.responses = []) :
    q.readResponse = { q with dataOut := emptyHeader } := by
  rw [← PortState.responseWord_empty h]
  simp [PortState.readResponse, h]

/-- The field that a board tells a response from the empty header word by (10.3). -/
@[simp] theorem getLsbD_responseHeader_valid (valid : Bool) (tag : Tag) (result : ResultCode) (n : Nat) :
    (responseHeader valid tag result n).getLsbD 15 = valid := by
  simp only [responseHeader, BitVec.getLsbD_append]
  simp

/-! ### A read and a placing in either order -/

theorem exec_responseRead_empty {s : State} {p : Port} (hr : s.resetAsserted = false) (he : (s.port p).responses = []) :
    exec (.responseRead p) s = .next (s.modifyPort p fun q => { q with dataOut := emptyHeader }) := by
  rw [exec_responseRead hr, State.modifyPort, PortState.readResponse_empty he, State.modifyPort]

theorem State.port_place_empty {s : State} {p : Port} (hm : (s.port p).mode ≠ .draining)
    (he : (s.port p).responses = []) (r : Response) : (s.place p r).port p = { s.port p with responses := [r] } := by
  simp [State.port_place, hm, he]

/-! ### The queue number (R186) -/

/-- With no response available the larger count is the outstanding one and stands in the upper digit to base 9. -/
theorem decodeQueueNumber_empty {o i : Nat} (ho : o ≤ 8) (hi : i ≤ o) :
    decodeQueueNumber (9 * o + i) = (o, i, false) := by
  have hlow : (9 * o + i) % 9 = i := by omega
  have hhigh : (9 * o + i) / 9 = o := by omega
  rw [decodeQueueNumber, hlow, hhigh, if_pos hi]

/-- With a response available the outstanding count is strictly larger than the other and stands in the lower digit. -/
theorem decodeQueueNumber_available {o i : Nat} (ho : o ≤ 8) (hi : i < o) :
    decodeQueueNumber (9 * i + o) = (o, i, true) := by
  have hlow : (9 * i + o) % 9 = o := by omega
  have hhigh : (9 * i + o) / 9 = i := by omega
  rw [decodeQueueNumber, hlow, hhigh, if_neg (Nat.not_le.2 hi)]

theorem PortState.decode_queueNumber {q : PortState} (ho : q.outstanding.length ≤ 8)
    (hi : q.intake.length ≤ q.outstanding.length) (hr : q.responses ≠ [] → q.intake.length < q.outstanding.length) :
    decodeQueueNumber q.queueNumber = (q.outstanding.length, q.intake.length, !q.responses.isEmpty) := by
  unfold PortState.queueNumber
  cases he : q.responses with
  | nil => exact decodeQueueNumber_empty ho hi
  | cons r rest => exact decodeQueueNumber_available ho (hr (by simp [he]))

end Sys2Proof.Machine

namespace Sys2Proof.Proofs

open Sys2Proof.Machine

/-- Settles O9: on an empty queue a read touches the data-pin latch alone, so a placing before or after it finds the same
queue; the queue number is decoded by its digits to base 9. -/
theorem emptyResponseReadChangesNothing : Obligations.EmptyResponseReadChangesNothing := by
  unfold Obligations.EmptyResponseReadChangesNothing
  refine ⟨⟨by decide, rfl, by decide, getLsbD_responseHeader_valid .., fun _ _ _ => getLsbD_responseHeader_valid ..⟩,
    ?_, ?_, ?_⟩
  · intro s p hr he
    exact exec_responseRead_empty hr he
  · intro s p r hr he hpos hm
    refine ⟨⟨_, exec_responseRead_empty hr he, ?_, ?_⟩, _, exec_responseRead (by simpa using hr) p, ?_⟩
    · rw [State.port_modifyPort_self]
      rfl
    · rw [State.port_place_empty] <;> rw [State.port_modifyPort_self]
      · exact ⟨rfl, hpos⟩
      · exact hm
      · exact he
    · rw [State.port_modifyPort_self, PortState.dataOut_readResponse, State.port_place_empty hm he]
      exact PortState.responseWord_first rfl hpos
  · intro q ho hi hr
    rw [PortState.decode_queueNumber ho hi hr]

end Sys2Proof.Proofs
end

section
/-! What one step of the part can do, said once: the effects a request can have at its turn, the events of the part, and that every
step is a run of such events. Each law that every step keeps is proved on the events. -/

namespace Sys2Proof.Machine

/-! ### Events on a body -/

/-- What an event on a POOL makes of its body, with the responses to waiters that it places. `taker` is the port whose request
takes units, if one does, and `free` the number of free holding entries. -/
inductive PoolEvent (free : Nat) (taker : Option Port) (b : Pool) : Pool → List (Port × Response) → Prop
  | same : PoolEvent free taker b b []
  | limits {n : Nat} (hn : n ≤ 65535) : PoolEvent free taker b { b with lowMark := n } []
  | take {p : Port} {n : Nat} (hp : taker = some p) (hn : n ≠ 0) (hw : b.waiters = []) (hl : n ≤ b.level)
      (hf : b.lists p = true ∨ free ≠ 0) : PoolEvent free taker b (b.take p n) []
  | release {p : Port} {n : Nat} (hp : b.lists p = true) (hn : n ≤ b.unitsOf p) :
      PoolEvent free taker b (b.giveBack p n).cascade.1 (b.giveBack p n).cascade.2
  | raise {n : Nat} (hn : b.stock + n ≤ 65535) :
      PoolEvent free taker b ({ b with stock := b.stock + n, level := b.level + n } : Pool).cascade.1
        ({ b with stock := b.stock + n, level := b.level + n } : Pool).cascade.2
  | lower {n : Nat} (hn : n ≤ b.level) :
      PoolEvent free taker b
        (({ b with stock := b.stock - n, level := b.level - n } : Pool).endWaiters (aboveStock (b.stock - n))).cascade.1
        (mergeResponses (aboveStock (b.stock - n)) (some .short) b.waiters
          (({ b with stock := b.stock - n, level := b.level - n } : Pool).endWaiters (aboveStock (b.stock - n))).cascade.2)
  | grant {w : Waiter} {rest : List Waiter} (hw : b.waiters = w :: rest) (hl : w.units ≤ b.level) :
      PoolEvent free taker b (b.grantHead w rest) [grantResponse w (b.grantHead w rest)]
  | ended (q : Waiter → Bool) (result : ResultCode) :
      PoolEvent free taker b (b.endAndCascade q).1 (mergeResponses q (some result) b.waiters (b.endAndCascade q).2)

/-- What an event makes of a body; of a body that is no POOL it says which laws the event keeps. -/
inductive BodyEvent (free : Nat) (taker : Option Port) : Body → Body → List (Port × Response) → Prop
  | pool {b b1 : Pool} {rs : List (Port × Response)} (h : PoolEvent free taker b b1 rs) :
      BodyEvent free taker (.pool b) (.pool b1) rs
  | counter {c c1 : Counter} (h : c.legal → c1.legal) : BodyEvent free taker (.counter c) (.counter c1) []
  | flags {b b1 : FlagSet} (h : b.legal → b1.legal)
      (hc : ∀ (n : FlagNo) (q : Port), b1.claimants[n.val] = some q → b.claimants[n.val] = some q ∨ taker = some q) :
      BodyEvent free taker (.flags b) (.flags b1) []
  | sequence {b b1 : Sequence} (h : b.legal → b1.legal) : BodyEvent free taker (.sequence b) (.sequence b1) []

/-! ### The effect of a request -/

/-- What a request `r` of port `p` with code `c`, other than DETACH, does in the state `u` that its turn leaves. -/
inductive RequestEffect (c : ReqCode) (p : Port) (r : Request) (u : State) : State → Prop
  | reply (result : ResultCode) {data : List Word} (hd : data.length ≤ 9) :
      RequestEffect c p r u (u.reply p r result data)
  | exhausted (n : Nat) (result : ResultCode) (hc : c = .acquire ∨ c = .acquireWait) :
      RequestEffect c p r u ((u.setReason n).reply p r result [])
  | body {i : Slot} {rec : Record} {body : Body} {rs : List (Port × Response)} (result : ResultCode) {data : List Word}
      (hi : c.namesHandle = true → i = r.target) (hs : (u.slot i).record = some rec)
      (hb : BodyEvent u.freeHoldings (some p) rec.body body rs) (hd : data.length ≤ 9) :
      RequestEffect c p r u (u.finishEvent i rec { rec with body := body } (rs ++ [(p, answer r result data)]))
  | queue {rec : Record} {b : Pool} {n timeout : Nat} (hs : (u.slot r.target).record = some rec) (hb : rec.body = .pool b)
      (hl : rec.state = .live) (hn : 1 ≤ n) (hst : n ≤ b.stock) (ht : timeout ≤ 4095)
      (hblocked : b.waiters = [] → b.level < n) (hw : u.freeWaiters ≠ 0) (hf : b.lists p = true ∨ u.freeHoldings ≠ 0) :
      RequestEffect c p r u (u.finishEvent r.target rec
        { rec with body := .pool { b with waiters := b.waiters ++ [newWaiter b n timeout p r] } } [])
  | hold {rec : Record} (hs : (u.slot r.target).record = some rec) (hl : rec.state = .live) (hc : rec.committed = true) :
      RequestEffect c p r u (u.finishEvent r.target rec
        { rec with state := .closing, held := .pending p r.tag, body := rec.body.withoutWaiters } (closedResponses rec.body))
  | retire {rec : Record} (hs : (u.slot r.target).record = some rec) (hl : rec.state = .live) :
      RequestEffect c p r u ((u.emptySlot r.target rec rec .done).reply p r .done [])
  | own {rec : Record} (hs : (u.slot r.target).record = some rec) :
      RequestEffect c p r u ((u.writeRecord r.target { rec with owner := some p }).reply p r .done [])
  | watch {rec : Record} (mode : WatchMode) (hs : (u.slot r.target).record = some rec) :
      RequestEffect c p r u ((u.writeRecord r.target { rec with watch := rec.watch.set p.val mode }).reply p r .done [])
  | assign {rec : Record} (line : Option LineAssignment) (hs : (u.slot r.target).record = some rec) :
      RequestEffect c p r u ((((u.withdrawLine rec.line rec.inAlert).enterLine line rec.inAlert).writeRecord r.target
        { rec with line := line }).reply p r .done [])
  | create {i : Slot} {body : Body} (hc : c = .create) (hb : createBody r = some body)
      (hk : u.slotOfKey (r.word 1) = none) (he : u.lowestEmpty = some i) :
      RequestEffect c p r u ((u.writeRecord i (newRecord (r.word 1) p body)).reply p r .done [u.handleOf i])
  | notice {e : ChangedEntry} {rest : List ChangedEntry} (hc : c = .nextNotice) (h : u.changed[p.val] = e :: rest) :
      RequestEffect c p r u (({ u with changed := u.changed.set p.val rest } : State).reply p r .done e.words)

/-! ### Each request has such an effect -/

theorem RequestEffect.refused {c : ReqCode} {p : Port} {r : Request} {u : State} (result : ResultCode) :
    RequestEffect c p r u (u.reply p r result []) := .reply result (by simp)

/-- A request on a handle is refused with no data words, or acts on the record it names, which is LIVE unless R18 allows the
request on a CLOSING one. -/
theorem RequestEffect.withRecord {c : ReqCode} {p : Port} {r : Request} {u : State} {cs : CheckSpec}
    {act : Slot → Record → Port → Request → State → State}
    (h : ∀ rec, (u.slot r.target).record = some rec → (cs.onClosing = false → rec.state = .live) →
      RequestEffect c p r u (act r.target rec p r u)) : RequestEffect c p r u (u.withRecord cs act p r) := by
  unfold State.withRecord State.checkHandle
  cases hr : (u.slot (handleSlot (r.word 0))).record with
  | none => exact .refused _
  | some rec =>
    dsimp only
    split
    next result heq =>
      exact .refused _
    next rec' heq =>
      split at heq
      · cases heq
      split at heq
      · cases heq
      split at heq
      · cases heq
      split at heq
      · cases heq
      rename_i hcl
      obtain rfl : rec = rec' := by simpa using heq
      refine h rec hr fun hc => ?_
      cases hst : rec.state with
      | live => rfl
      | closing => simp [hc, hst] at hcl

/-- An event of one request on the record its handle names. -/
theorem RequestEffect.onBody {c : ReqCode} {p : Port} {r : Request} {u : State} {rec : Record} {body : Body}
    (hs : (u.slot r.target).record = some rec) (hb : BodyEvent u.freeHoldings (some p) rec.body body [])
    (result : ResultCode) {data : List Word} (hd : data.length ≤ 9) :
    RequestEffect c p r u (u.finishEvent r.target rec { rec with body := body } [(p, answer r result data)]) :=
  .body (rs := []) result (fun _ => rfl) hs hb hd

section
variable {c : ReqCode} {p : Port} {r : Request} {u : State} {rec : Record}

/-! #### POOL requests -/

theorem effect_serveUnits {b : Pool} {n : Nat} (hc : c = .acquire ∨ c = .acquireWait)
    (hs : (u.slot r.target).record = some rec) (hb : rec.body = .pool b) (hn : n ≠ 0) (hw : b.waiters = [])
    (hl : n ≤ b.level) : RequestEffect c p r u (u.serveUnits r.target rec b n p r) := by
  unfold State.serveUnits
  split
  · exact .exhausted _ _ hc
  · rename_i hf
    refine .onBody hs ?_ _ (by simp)
    rw [hb]
    refine .pool (.take rfl hn hw hl ?_)
    cases hlst : b.lists p
    · exact .inr (by simpa [hlst] using hf)
    · exact .inl rfl

theorem effect_acquire (hs : (u.slot r.target).record = some rec) :
    RequestEffect .acquire p r u (onPool actAcquire r.target rec p r u) := by
  unfold onPool
  split
  next b hb =>
    simp only [actAcquire]
    split
    · exact .refused _
    split
    · exact .refused _
    rename_i hn hq
    simp only [Bool.or_eq_true, Bool.not_eq_true', List.isEmpty_eq_false_iff, decide_eq_true_eq, not_or, not_lt,
      not_not] at hq
    exact effect_serveUnits (.inl rfl) hs hb hn hq.1 hq.2
  all_goals exact .refused _

theorem effect_acquireWait (hs : (u.slot r.target).record = some rec) (hl : rec.state = .live) :
    RequestEffect .acquireWait p r u (onPool actAcquireWait r.target rec p r u) := by
  unfold onPool
  split
  next b hb =>
    simp only [actAcquireWait]
    split
    · exact .refused _
    split
    · exact .refused _
    split
    · exact .refused _
    rename_i hn ht hst
    split
    · rename_i hq
      simp only [Bool.and_eq_true, List.isEmpty_iff, decide_eq_true_eq] at hq
      exact effect_serveUnits (.inr rfl) hs hb hn hq.1 hq.2
    rename_i hq
    split
    · exact .exhausted _ _ (.inr rfl)
    split
    · exact .exhausted _ _ (.inr rfl)
    rename_i hw hf
    simp only [Config.maxTimeout] at ht
    refine .queue hs hb hl (by omega) (by omega) (by omega) (fun he => ?_) hw ?_
    · simpa [he] using hq
    · cases hlst : b.lists p
      · exact .inr (by simpa [hlst] using hf)
      · exact .inl rfl
  all_goals exact .refused _

/-- A port that holds units has a listed entry. -/
theorem lists_of_unitsOf {b : Pool} {p : Port} (h : b.unitsOf p ≠ 0) : b.lists p = true := by
  unfold Pool.unitsOf at h
  split at h
  next x hx =>
    exact List.any_eq_true.2 ⟨x, List.mem_of_find?_eq_some hx, by simpa using List.find?_some hx⟩
  next => exact absurd rfl h

theorem effect_release (hs : (u.slot r.target).record = some rec) :
    RequestEffect .release p r u (onPool actRelease r.target rec p r u) := by
  unfold onPool
  split
  next b hb =>
    simp only [actRelease]
    split
    · exact .refused _
    split
    · exact .refused _
    rename_i hn hu
    refine .body _ (fun _ => rfl) hs ?_ (by simp)
    rw [hb]
    exact .pool (.release (lists_of_unitsOf (by omega)) (by omega))
  all_goals exact .refused _

theorem effect_restock (hs : (u.slot r.target).record = some rec) :
    RequestEffect .restock p r u (onPool actRestock r.target rec p r u) := by
  unfold onPool
  split
  next b hb =>
    simp only [actRestock]
    split
    · exact .reply _ (by simp)
    split
    · simp only [restockUp]
      split
      · exact .refused _
      · refine .body _ (fun _ => rfl) hs ?_ (by simp)
        rw [hb]
        exact .pool (.raise (by omega))
    · simp only [restockDown]
      split
      · exact .refused _
      · refine .body _ (fun _ => rfl) hs ?_ (by simp)
        rw [hb]
        exact .pool (.lower (by omega))
  all_goals exact .refused _

theorem effect_readHolders : RequestEffect .readHolders p r u (onPool actReadHolders r.target rec p r u) := by
  unfold onPool
  split
  · exact .reply _ (by simp [Pool.holdersWords, allPorts])
  all_goals exact .refused _

/-! #### COUNTER requests -/

/-- A request with a target keeps the value within its range (R87, R89). -/
theorem Counter.legal_applyTarget {c : Counter} (target : Int) (h : c.legal) : (c.applyTarget target).legal := by
  obtain ⟨h1, h2, h3, h4, h5, h6, h7⟩ := h
  unfold Counter.applyTarget
  split
  · split
    · exact ⟨h1, h2, h3, h4, h5, h6, h7⟩
    · refine ⟨?_, ?_, h3, h4, h5, h6, h7⟩ <;> simp only [clampTo] <;> split <;> (try split) <;> omega
  · rename_i ho
    simp only [Counter.outside, Bool.or_eq_true, decide_eq_true_eq, not_or, not_lt] at ho
    exact ⟨ho.1, ho.2, h3, h4, h5, h6, h7⟩

/-- The bounds of a word read as a signed number. -/
theorem toInt_bounds (w : Word) : -32768 ≤ w.toInt ∧ w.toInt ≤ 32767 := by
  have h1 := BitVec.le_toInt w
  have h2 := BitVec.toInt_lt (x := w)
  norm_num at h1 h2
  omega

theorem Counter.legal_setLimits {c : Counter} {floor ceiling low high : Word} (hf : floor.toInt ≤ ceiling.toInt)
    (hm : low.toInt ≤ high.toInt) : (c.setLimits floor.toInt ceiling.toInt low.toInt high.toInt).legal := by
  have h1 := toInt_bounds floor
  have h2 := toInt_bounds ceiling
  have h3 := toInt_bounds low
  have h4 := toInt_bounds high
  refine ⟨?_, ?_, h1.1, h2.2, h3.1, hm, h4.2⟩ <;> simp only [Counter.setLimits, clampTo] <;> split <;> (try split) <;> omega

theorem effect_applyTarget {b : Counter} (target : Int) (hs : (u.slot r.target).record = some rec)
    (hb : rec.body = .counter b) : RequestEffect c p r u (u.applyTarget r.target rec b target p r) := by
  refine .onBody hs ?_ _ (by simp [Counter.answerWords])
  rw [hb]
  exact .counter (Counter.legal_applyTarget target)

theorem effect_add (hs : (u.slot r.target).record = some rec) :
    RequestEffect .add p r u (onCounter actAdd r.target rec p r u) := by
  unfold onCounter
  split
  next b hb => exact effect_applyTarget _ hs hb
  all_goals exact .refused _

theorem effect_set (hs : (u.slot r.target).record = some rec) :
    RequestEffect .set p r u (onCounter actSet r.target rec p r u) := by
  unfold onCounter
  split
  next b hb => exact effect_applyTarget _ hs hb
  all_goals exact .refused _

theorem effect_compareSet (hs : (u.slot r.target).record = some rec) :
    RequestEffect .compareSet p r u (onCounter actCompareSet r.target rec p r u) := by
  unfold onCounter
  split
  next b hb =>
    simp only [actCompareSet]
    split
    · exact effect_applyTarget _ hs hb
    · exact .reply _ (by simp [Counter.answerWords])
  all_goals exact .refused _

theorem effect_clearLimit (hs : (u.slot r.target).record = some rec) :
    RequestEffect .clearLimit p r u (onCounter actClearLimit r.target rec p r u) := by
  unfold onCounter
  split
  next b hb =>
    refine .onBody hs ?_ _ (by simp [Counter.answerWords])
    rw [hb]
    exact .counter id
  all_goals exact .refused _

/-! #### FLAGS requests -/

theorem getLsbD_claimed (b : FlagSet) (n : FlagNo) : b.claimed.getLsbD n.val = b.claimants[n.val].isSome := by
  rw [FlagSet.claimed, getLsbD_bitsOf _ n.isLt, claimant_eq]

theorem getLsbD_claimedBy (b : FlagSet) (p : Port) (n : FlagNo) :
    (b.claimedBy p).getLsbD n.val = (b.claimants[n.val] == some p) := by
  rw [FlagSet.claimedBy, getLsbD_bitsOf _ n.isLt, claimant_eq]

theorem getLsbD_flagBit (n m : FlagNo) : (flagBit n).getLsbD m.val = decide (n = m) := by
  revert n m; decide

/-- The flags of a set without those of another. -/
theorem getLsbD_andNot (x y : Word) (n : FlagNo) :
    (x &&& ~~~y).getLsbD n.val = (x.getLsbD n.val && !y.getLsbD n.val) := by
  rw [BitVec.getLsbD_and, BitVec.getLsbD_not, decide_eq_true n.isLt, Bool.true_and]

/-- A mask operation on the unclaimed flags of its mask leaves the claimed ones set (R99, R102). -/
theorem effect_mask {op : Word → Word → Word}
    (hop : ∀ (flags m : Word) (n : FlagNo), m.getLsbD n.val = false → (op flags m).getLsbD n.val = flags.getLsbD n.val)
    (hs : (u.slot r.target).record = some rec) : RequestEffect c p r u (onFlags (actMask op) r.target rec p r u) := by
  unfold onFlags
  split
  next b hb =>
    refine .onBody hs ?_ _ (by simp)
    rw [hb]
    refine .flags (fun h n hn => ?_) (fun n q hq => .inl hq)
    have hcl : (r.word 1 &&& ~~~b.claimed).getLsbD n.val = false := by
      rw [getLsbD_andNot, getLsbD_claimed, hn, Bool.not_true, Bool.and_false]
    exact (hop _ _ n hcl).trans (h n hn)
  all_goals exact .refused _

theorem FlagSet.claimants_claim (b : FlagSet) (n m : FlagNo) (p : Port) :
    (b.claim n p).claimants[m.val] = if n = m then some p else b.claimants[m.val] := by
  simp [FlagSet.claim, Vector.getElem_set, Fin.ext_iff]

theorem FlagSet.claimants_unclaim (b : FlagSet) (n m : FlagNo) :
    (b.unclaim n).claimants[m.val] = if n = m then none else b.claimants[m.val] := by
  simp [FlagSet.unclaim, Vector.getElem_set, Fin.ext_iff]

theorem FlagSet.claimants_reclaim (b : FlagSet) (p : Port) (m : FlagNo) :
    (b.reclaim p).claimants[m.val] = if b.claimants[m.val] = some p then none else b.claimants[m.val] := by
  simp [FlagSet.reclaim]

theorem FlagSet.getLsbD_claim (b : FlagSet) (n m : FlagNo) (p : Port) :
    (b.claim n p).flags.getLsbD m.val = (b.flags.getLsbD m.val || decide (n = m)) := by
  rw [FlagSet.claim, BitVec.getLsbD_or, getLsbD_flagBit]

theorem FlagSet.getLsbD_unclaim (b : FlagSet) (n m : FlagNo) :
    (b.unclaim n).flags.getLsbD m.val = (b.flags.getLsbD m.val && !decide (n = m)) := by
  rw [FlagSet.unclaim, getLsbD_andNot, getLsbD_flagBit]

theorem FlagSet.getLsbD_reclaim (b : FlagSet) (p : Port) (m : FlagNo) :
    (b.reclaim p).flags.getLsbD m.val = (b.flags.getLsbD m.val && !(b.claimants[m.val] == some p)) := by
  rw [FlagSet.reclaim, getLsbD_andNot, getLsbD_claimedBy]

theorem FlagSet.legal_claim {b : FlagSet} (n : FlagNo) (p : Port) (h : b.legal) : (b.claim n p).legal := by
  intro m hm
  rw [FlagSet.claimants_claim] at hm
  rw [FlagSet.getLsbD_claim]
  by_cases hnm : n = m
  · simp [hnm]
  · rw [if_neg hnm] at hm
    simp [h m hm]

theorem FlagSet.legal_unclaim {b : FlagSet} (n : FlagNo) (h : b.legal) : (b.unclaim n).legal := by
  intro m hm
  rw [FlagSet.claimants_unclaim] at hm
  rw [FlagSet.getLsbD_unclaim]
  by_cases hnm : n = m
  · simp [hnm] at hm
  · rw [if_neg hnm] at hm
    simp [h m hm, hnm]

theorem FlagSet.legal_reclaim {b : FlagSet} (p : Port) (h : b.legal) : (b.reclaim p).legal := by
  intro m hm
  rw [FlagSet.claimants_reclaim] at hm
  rw [FlagSet.getLsbD_reclaim]
  by_cases hp : b.claimants[m.val] = some p
  · simp [hp] at hm
  · rw [if_neg hp] at hm
    simp [h m hm, hp]

theorem effect_claim (hs : (u.slot r.target).record = some rec) :
    RequestEffect .claim p r u (onFlags actClaim r.target rec p r u) := by
  unfold onFlags
  split
  next b hb =>
    simp only [actClaim]
    split
    · exact .refused _
    next n hn =>
      refine .onBody hs ?_ _ (by simp)
      rw [hb]
      refine .flags (FlagSet.legal_claim n p) fun m q hq => ?_
      rw [FlagSet.claimants_claim] at hq
      split at hq
      · exact .inr hq
      · exact .inl hq
  all_goals exact .refused _

theorem effect_unclaim (hs : (u.slot r.target).record = some rec) :
    RequestEffect .unclaim p r u (onFlags actUnclaim r.target rec p r u) := by
  unfold onFlags
  split
  next b hb =>
    simp only [actUnclaim]
    split
    · exact .refused _
    split
    · exact .refused _
    refine .onBody hs ?_ _ (by simp)
    rw [hb]
    refine .flags (FlagSet.legal_unclaim _) fun m q hq => ?_
    rw [FlagSet.claimants_unclaim] at hq
    split at hq
    · cases hq
    · exact .inl hq
  all_goals exact .refused _

/-! #### SEQUENCE requests and LIMITS -/

theorem word_toNat_le (w : Word) : w.toNat ≤ 65535 := by have := w.isLt; omega

theorem effect_next (hs : (u.slot r.target).record = some rec) :
    RequestEffect .next p r u (onSequence actNext r.target rec p r u) := by
  unfold onSequence
  split
  next b hb =>
    simp only [actNext]
    split
    · exact .refused _
    split
    · exact .reply _ (by simp)
    refine .onBody hs ?_ _ (by simp)
    rw [hb]
    refine .sequence fun ⟨h1, h2, h3, h4, h5⟩ => ⟨h1, h2, h3, ?_, h5⟩
    exact (Nat.sub_le _ _).trans h4
  all_goals exact .refused _

theorem effect_refill (hs : (u.slot r.target).record = some rec) :
    RequestEffect .refill p r u (onSequence actRefill r.target rec p r u) := by
  unfold onSequence
  split
  next b hb =>
    refine .onBody hs ?_ _ (by simp)
    rw [hb]
    exact .sequence fun ⟨h1, h2, h3, _, h5⟩ => ⟨h1, h2, h3, word_toNat_le _, h5⟩
  all_goals exact .refused _

theorem effect_limits (hs : (u.slot r.target).record = some rec) :
    RequestEffect .limits p r u (actLimits r.target rec p r u) := by
  unfold actLimits
  split
  next b hb =>
    refine .onBody hs ?_ _ (by simp)
    rw [hb]
    exact .pool (.limits (word_toNat_le _))
  next b hb =>
    refine .onBody hs ?_ _ (by simp)
    rw [hb]
    exact .flags id fun n q hq => .inl hq
  next b hb =>
    refine .onBody hs ?_ _ (by simp)
    rw [hb]
    exact .sequence fun ⟨h1, h2, h3, h4, _⟩ => ⟨h1, h2, h3, h4, word_toNat_le _⟩
  next b hb =>
    simp only [actCounterLimits]
    split
    · exact .refused _
    rename_i hr
    simp only [Bool.or_eq_true, decide_eq_true_eq, not_or, not_lt] at hr
    refine .onBody hs ?_ _ (by simp [Counter.answerWords])
    rw [hb]
    exact .counter fun _ => Counter.legal_setLimits hr.1 hr.2

/-! #### The requests of the Record Table, and those that name no record -/

theorem effect_retire (hs : (u.slot r.target).record = some rec) (hl : rec.state = .live) :
    RequestEffect .retire p r u (actRetire r.target rec p r u) := by
  unfold actRetire
  split
  next hc => exact .hold hs hl hc
  next => exact .retire hs hl

theorem effect_adopt (hs : (u.slot r.target).record = some rec) :
    RequestEffect .adopt p r u (actAdopt r.target rec p r u) := by
  unfold actAdopt
  split
  · exact .refused _
  · exact .own hs

theorem effect_read : RequestEffect .read p r u (actRead r.target rec p r u) := by
  refine .reply _ ?_
  unfold readAnswer Body.readWords
  split <;> simp

theorem effect_watch (hs : (u.slot r.target).record = some rec) :
    RequestEffect .watch p r u (actWatch r.target rec p r u) := by
  unfold actWatch
  split
  · exact .refused _
  · exact .watch _ hs

theorem effect_assignLine (hs : (u.slot r.target).record = some rec) :
    RequestEffect .assignLine p r u (actAssignLine r.target rec p r u) := by
  unfold actAssignLine
  split
  · exact .refused _
  · exact .assign _ hs

theorem effect_create : RequestEffect .create p r u (takeCreate p r u) := by
  unfold takeCreate
  split
  · exact .refused _
  next body hb =>
    split
    · exact .refused _
    next hk =>
      split
      · exact .refused _
      next i he => exact .create rfl hb hk he

theorem effect_find : RequestEffect .find p r u (takeFind p r u) := by
  unfold takeFind
  split
  · exact .reply _ (by simp)
  · exact .refused _

theorem effect_scan : RequestEffect .scan p r u (takeScan p r u) := by
  unfold takeScan
  split
  · exact .refused _
  split
  · exact .reply _ (by simp)
  · exact .refused _

theorem effect_nextNotice : RequestEffect .nextNotice p r u (takeNextNotice p r u) := by
  unfold takeNextNotice
  split
  · exact .refused _
  next e rest h => exact .notice rfl h

theorem effect_readLines : RequestEffect .readLines p r u (takeReadLines p r u) :=
  .reply _ (by simp)

theorem effect_cancel : RequestEffect .cancel p r u (takeCancel p r u) := by
  unfold takeCancel
  split
  · exact .refused _
  split
  · exact .refused _
  next i hi =>
    unfold State.cancelAt
    split
    · exact .refused _
    next rec hs =>
      split
      next b hb =>
        refine .body _ (by simp [ReqCode.namesHandle]) hs ?_ (by simp)
        rw [hb]
        exact .pool (.ended _ _)
      all_goals exact .refused _

end

/-- At its turn every request but DETACH has one of these effects. -/
theorem exec_request {s : State} {p : Port} {c : ReqCode} {i : Instr} {r : Request} {rest : List Request}
    (hi : ReqCode.taken p c = some i) (hc : c ≠ .detach) (h : s.atTurn p c r rest) :
    ∃ t, exec i s = .next t ∧ RequestEffect c p r (s.turnTaken p rest) t := by
  suffices ∃ take : Port → Request → State → State, exec i s = .next (s.onTurn p c take) ∧
      RequestEffect c p r (s.turnTaken p rest) (take p r (s.turnTaken p rest)) by
    obtain ⟨take, he, ht⟩ := this
    exact ⟨_, he.trans (congrArg _ (State.onTurn_atTurn h take)), ht⟩
  cases c <;> simp only [ReqCode.taken, Option.some.injEq, reduceCtorEq] at hi <;> subst hi
  case detach => exact absurd rfl hc
  case cancel => exact ⟨_, rfl, effect_cancel⟩
  case nextNotice => exact ⟨_, rfl, effect_nextNotice⟩
  case readLines => exact ⟨_, rfl, effect_readLines⟩
  case limits => exact ⟨_, rfl, .withRecord fun _ hs _ => effect_limits hs⟩
  case create => exact ⟨_, rfl, effect_create⟩
  case retire => exact ⟨_, rfl, .withRecord fun _ hs hl => effect_retire hs (hl rfl)⟩
  case adopt => exact ⟨_, rfl, .withRecord fun _ hs _ => effect_adopt hs⟩
  case find => exact ⟨_, rfl, effect_find⟩
  case scan => exact ⟨_, rfl, effect_scan⟩
  case read => exact ⟨_, rfl, .withRecord fun _ _ _ => effect_read⟩
  case watch => exact ⟨_, rfl, .withRecord fun _ hs _ => effect_watch hs⟩
  case assignLine => exact ⟨_, rfl, .withRecord fun _ hs _ => effect_assignLine hs⟩
  case acquire => exact ⟨_, rfl, .withRecord fun _ hs _ => effect_acquire hs⟩
  case acquireWait => exact ⟨_, rfl, .withRecord fun _ hs hl => effect_acquireWait hs (hl rfl)⟩
  case release => exact ⟨_, rfl, .withRecord fun _ hs _ => effect_release hs⟩
  case restock => exact ⟨_, rfl, .withRecord fun _ hs _ => effect_restock hs⟩
  case readHolders => exact ⟨_, rfl, .withRecord fun _ _ _ => effect_readHolders⟩
  case add => exact ⟨_, rfl, .withRecord fun _ hs _ => effect_add hs⟩
  case set => exact ⟨_, rfl, .withRecord fun _ hs _ => effect_set hs⟩
  case compareSet => exact ⟨_, rfl, .withRecord fun _ hs _ => effect_compareSet hs⟩
  case clearLimit => exact ⟨_, rfl, .withRecord fun _ hs _ => effect_clearLimit hs⟩
  case setFlags =>
    exact ⟨_, rfl, .withRecord fun _ hs _ => effect_mask (fun flags m n hm => by rw [BitVec.getLsbD_or, hm, Bool.or_false]) hs⟩
  case clearFlags =>
    exact ⟨_, rfl, .withRecord fun _ hs _ => effect_mask (fun flags m n hm => by rw [getLsbD_andNot, hm, Bool.not_false, Bool.and_true]) hs⟩
  case toggleFlags =>
    exact ⟨_, rfl, .withRecord fun _ hs _ => effect_mask (fun flags m n hm => by rw [BitVec.getLsbD_xor, hm, Bool.xor_false]) hs⟩
  case claim => exact ⟨_, rfl, .withRecord fun _ hs _ => effect_claim hs⟩
  case unclaim => exact ⟨_, rfl, .withRecord fun _ hs _ => effect_unclaim hs⟩
  case next => exact ⟨_, rfl, .withRecord fun _ hs _ => effect_next hs⟩
  case refill => exact ⟨_, rfl, .withRecord fun _ hs _ => effect_refill hs⟩

end Sys2Proof.Machine
end

section
/-! The events of the part, and that every step is a run of them. -/

namespace Sys2Proof.Machine

/-! ### The events of the part -/

/-- The ports, the table, the free entries, the changed sets, the line counts, the cursors and the condition are the same. -/
def State.sameTable (s t : State) : Prop :=
  t.ports = s.ports ∧ t.slots = s.slots ∧ t.freeHoldings = s.freeHoldings ∧ t.freeWaiters = s.freeWaiters ∧
  t.changed = s.changed ∧ t.lineCounts = s.lineCounts ∧ t.cursors = s.cursors ∧ t.condition = s.condition

/-- No expiry event, clear or PURGE comes up in `t` unless `s` is READY or has one. -/
def State.noneNew (s t : State) : Prop :=
  (t.expiryEvents ≠ [] → s.condition = .ready ∨ s.expiryEvents ≠ []) ∧
  (t.clear ≠ none → s.condition = .ready ∨ s.clear ≠ none) ∧
  (t.purgeSlot ≠ none → s.condition = .ready ∨ s.purgeSlot ≠ none)

/-- An event of the part while it is out of reset. -/
inductive Act (s : State) : State → Prop
  | endSelfCheck (h : s.condition = .checking) : Act s s.endSelfCheck
  | stage (p : Port) (w : Word) : Act s (s.modifyPort p (PortState.stage w))
  | submit (p : Port) (w : Word) : Act s (s.submit p w)
  | readResponse (p : Port) : Act s (s.modifyPort p PortState.readResponse)
  | control (p : Port) (w : Word) : Act s (s.writeControl p w)
  | fence (p : Port) (h : (s.port p).mode = .online) : Act s (s.setMode p .fenced)
  | unfence (p : Port) (h : (s.port p).mode = .fenced) : Act s (s.setMode p .online)
  | request {p : Port} {c : ReqCode} {r : Request} {rest : List Request} {t : State} (h : s.atTurn p c r rest)
      (he : RequestEffect c p r (s.turnTaken p rest) t) : Act s t
  | body {i : Slot} {rec : Record} {body : Body} {rs : List (Port × Response)} (hs : (s.slot i).record = some rec)
      (hb : BodyEvent s.freeHoldings none rec.body body rs) : Act s (s.finishEvent i rec { rec with body := body } rs)
  | empty {i : Slot} {rec : Record} (result : ResultCode) (hs : (s.slot i).record = some rec) :
      Act s (s.emptySlot i rec rec result)
  | countDown : Act s { s with slots := s.slots.map SlotState.countDown }
  | enterDraining {p : Port} (h : (s.port p).mode = .online ∨ (s.port p).mode = .fenced) : Act s (s.enterDraining p)
  | clearOffline {p : Port} (h : (s.port p).mode = .offline) : Act s (s.modifyPort p (PortState.cleared .offline))
  | walk {p : Port} (h : s.walking p = true) :
      Act s ((s.reclaimSlot p (Fin.ofNat 256 s.cursors[p.val])).advanceCursor p s.cursors[p.val])

/-- An event of the part: one that touches neither ports nor table, a device reset, or an event while it is out of reset. -/
inductive Event (s : State) : State → Prop
  | device {t : State} (h : s.sameTable t) (hn : s.noneNew t) (hr : s.heldInReset → t.heldInReset) : Event s t
  | deviceReset (asserted : Bool) : Event s (s.deviceReset asserted)
  | act {t : State} (hr : s.resetAsserted = false) (h : Act s t) : Event s t

/-- A run of events. -/
abbrev Events : State → State → Prop := Relation.ReflTransGen Event

theorem State.sameTable_refl (s : State) : s.sameTable s := ⟨rfl, rfl, rfl, rfl, rfl, rfl, rfl, rfl⟩

theorem State.noneNew_of_eq {s t : State} (h1 : t.expiryEvents = s.expiryEvents) (h2 : t.clear = s.clear)
    (h3 : t.purgeSlot = s.purgeSlot) : s.noneNew t := by
  rw [State.noneNew, h1, h2, h3]
  exact ⟨.inr, .inr, .inr⟩

/-- An event out of reset, the state after it being given by an equation. -/
theorem Events.ofAct {s t u : State} (hr : s.resetAsserted = false) (h : Act s u) (ht : t = u) : Events s t :=
  ht ▸ .single (.act hr h)

/-- A change of the link, the clock or the arbiter out of reset. -/
theorem Events.ofDevice {s t : State} (hr : t.resetAsserted = false) (h : s.sameTable t) (hn : s.noneNew t) : Events s t :=
  .single (.device h hn fun _ ht => by rw [hr] at ht; cases ht)

/-! ### The entry into DRAINING, record by record -/

/-- The entry of port `p` into DRAINING either leaves the record in a slot as it is, or is one event that ends the port's
waiters on a POOL. -/
theorem State.dropWaitersAt_cases (p : Port) (s : State) (i : Slot) :
    s.dropWaitersAt p i = s ∨ ∃ (rec : Record) (b : Pool), (s.slot i).record = some rec ∧ rec.body = .pool b ∧
      b.waiters.any (ofPort p) = true ∧
      s.dropWaitersAt p i = s.finishEvent i rec { rec with body := .pool (b.endWaiters (ofPort p)).cascade.1 }
        (b.endWaiters (ofPort p)).cascade.2 := by
  unfold State.dropWaitersAt
  split
  · exact .inl rfl
  next rec hs =>
    split
    next b hb =>
      split
      next hw => exact .inr ⟨rec, b, hs, hb, hw, by simp only [mergeResponses_none]⟩
      · exact .inl rfl
    all_goals exact .inl rfl

/-- What each end of an event leaves alone, the entry's events leave alone. -/
theorem State.dropWaiters_keeps {α : Type} {p : Port} (f : State → α)
    (h : ∀ (s : State) (i : Slot) (r0 r1 : Record) (rs : List (Port × Response)), f (s.finishEvent i r0 r1 rs) = f s)
    (s : State) : f (s.dropWaiters p) = f s := by
  unfold State.dropWaiters
  induction allSlots generalizing s with
  | nil => rfl
  | cons i l ih =>
    rw [List.foldl_cons, ih]
    rcases State.dropWaitersAt_cases p s i with he | ⟨_, _, _, _, _, he⟩
    · rw [he]
    · rw [he, h]

/-- No act asserts RESET or brings up an expiry event, a clear or a PURGE, and the end of the self-check alone changes the
condition. -/
theorem Act.device {s t : State} (h : Act s t) :
    t.resetAsserted = s.resetAsserted ∧ t.expiryEvents = s.expiryEvents ∧ t.clear = s.clear ∧
    t.purgeSlot = s.purgeSlot ∧ (t.condition = s.condition ∨ s.condition = .checking ∧ t = s.endSelfCheck) := by
  cases h with
  | endSelfCheck h =>
    refine ⟨?_, ?_, ?_, ?_, .inr ⟨h, rfl⟩⟩ <;> (unfold State.endSelfCheck; split <;> rfl)
  | request _ he => cases he <;> simp
  | enterDraining h =>
    unfold State.enterDraining
    dsimp only
    refine ⟨?_, ?_, ?_, ?_, .inl ?_⟩
    · rw [State.dropWaiters_keeps (fun u => u.resetAsserted) (by simp)]; rfl
    · rw [State.dropWaiters_keeps (fun u => u.expiryEvents) (by simp)]; rfl
    · rw [State.dropWaiters_keeps (fun u => u.clear) (by simp)]; rfl
    · rw [State.dropWaiters_keeps (fun u => u.purgeSlot) (by simp)]; rfl
    · rw [State.dropWaiters_keeps (fun u => u.condition) (by simp)]; rfl
  | @walk q h =>
    have h1 : ∀ (p : Port) (n : Nat) (s : State), (s.advanceCursor p n).resetAsserted = s.resetAsserted ∧
        (s.advanceCursor p n).expiryEvents = s.expiryEvents ∧ (s.advanceCursor p n).clear = s.clear ∧
        (s.advanceCursor p n).purgeSlot = s.purgeSlot ∧ (s.advanceCursor p n).condition = s.condition := by
      intro p n s
      unfold State.advanceCursor
      dsimp only
      split <;> exact ⟨rfl, rfl, rfl, rfl, rfl⟩
    obtain ⟨h2, h3, h4, h5, h6⟩ := h1 q s.cursors[q.val] (s.reclaimSlot q (Fin.ofNat 256 s.cursors[q.val]))
    rw [h2, h3, h4, h5, h6]
    unfold State.reclaimSlot
    split <;> simp
  | _ => simp

theorem Act.resetAsserted {s t : State} (h : Act s t) : t.resetAsserted = s.resetAsserted := h.device.1

/-! ### The link -/

@[simp] theorem State.sameTable_deliver (s : State) (st : LinkStatus) : s.sameTable (s.deliver st) := by
  unfold State.deliver; split <;> exact ⟨rfl, rfl, rfl, rfl, rfl, rfl, rfl, rfl⟩

@[simp] theorem State.noneNew_deliver (s : State) (st : LinkStatus) : s.noneNew (s.deliver st) := by
  unfold State.deliver; split <;> exact State.noneNew_of_eq rfl rfl rfl

@[simp] theorem State.deliver_resetAsserted (s : State) (st : LinkStatus) :
    (s.deliver st).resetAsserted = s.resetAsserted := by
  unfold State.deliver; split <;> rfl

theorem events_deliver {s : State} (hr : s.resetAsserted = false) (st : LinkStatus) : Events s (s.deliver st) :=
  .ofDevice (by simpa using hr) (State.sameTable_deliver s st) (State.noneNew_deliver s st)

theorem events_respond {s : State} (hr : s.resetAsserted = false) (st : LinkStatus) (data : List Byte) :
    Events s (s.respond st data) :=
  .ofDevice hr ⟨rfl, rfl, rfl, rfl, rfl, rfl, rfl, rfl⟩ (State.noneNew_of_eq rfl rfl rfl)

theorem events_respondLater {s : State} (hr : s.resetAsserted = false) : Events s s.respondLater :=
  .ofDevice hr ⟨rfl, rfl, rfl, rfl, rfl, rfl, rfl, rfl⟩ (State.noneNew_of_eq rfl rfl rfl)

theorem events_setReason {s : State} (hr : s.resetAsserted = false) (n : Nat) : Events s (s.setReason n) :=
  .ofDevice hr ⟨rfl, rfl, rfl, rfl, rfl, rfl, rfl, rfl⟩ (State.noneNew_of_eq rfl rfl rfl)

theorem events_emptySlot {s : State} (hr : s.resetAsserted = false) {i : Slot} {rec : Record} (result : ResultCode)
    (hs : (s.slot i).record = some rec) : Events s (s.emptySlot i rec rec result) :=
  .ofAct hr (.empty result hs) rfl

theorem events_purgeSlotNow {s : State} (hr : s.resetAsserted = false) (i : Slot) :
    Events s (s.purgeSlotNow i) ∧ (s.purgeSlotNow i).resetAsserted = false := by
  unfold State.purgeSlotNow
  split
  · exact ⟨events_deliver hr _, by simpa using hr⟩
  next rec hs =>
    exact ⟨(events_emptySlot hr _ hs).trans (events_deliver (by simpa using hr) _), by simpa using hr⟩

theorem events_settlePurge {s : State} (hr : s.resetAsserted = false) :
    Events s s.settlePurge ∧ s.settlePurge.resetAsserted = false := by
  unfold State.settlePurge
  split
  · exact ⟨.refl, hr⟩
  next i hi =>
    have h1 : Events s { s with purgeSlot := none } :=
      .ofDevice hr ⟨rfl, rfl, rfl, rfl, rfl, rfl, rfl, rfl⟩ ⟨.inr, .inr, fun h => absurd rfl h⟩
    have h2 := events_purgeSlotNow (s := { s with purgeSlot := none }) hr i
    exact ⟨h1.trans h2.1, h2.2⟩

/-- What is known of a command of the link where it executes: the device is READY, but for STATUS and SET-MATTN-MASK. -/
theorem ready_of_linkRefusal {s : State} {c : LinkCommand} (h : s.linkRefusal c = none) (h1 : c ≠ .status)
    (h2 : c ≠ .setMattnMask) : s.condition = .ready := by
  unfold State.linkRefusal at h
  cases hc : s.condition <;> simp [hc, h1, h2] at h ⊢

theorem events_takeCommand {c : LinkCommand} {act : State → State} {s : State} (hr : s.resetAsserted = false)
    (h : ∀ u : State, u.resetAsserted = false → u.linkRefusal c = none → Events u (act u)) :
    Events s (s.takeCommand c act) := by
  obtain ⟨he, hr'⟩ := events_settlePurge hr
  refine he.trans ?_
  unfold State.takeCommand
  dsimp only
  split
  · exact events_respond hr' _ _
  next hl => exact h _ hr' hl

theorem events_outOfReset {f : State → State} {s : State} (h : s.resetAsserted = false → Events s (f s)) :
    Events s (s.outOfReset f) := by
  unfold State.outOfReset
  split
  · exact .refl
  next hr => exact h (by simpa using hr)

theorem events_onCommand {c : LinkCommand} {act : State → State} {s : State}
    (h : ∀ u : State, u.resetAsserted = false → u.linkRefusal c = none → Events u (act u)) :
    Events s (s.onCommand c act) := by
  unfold State.onCommand
  split
  · exact events_outOfReset fun hr => events_takeCommand hr h
  · exact .refl

theorem events_onArgument {c : LinkCommand} {act : State → State} {s : State}
    (h : ∀ u : State, u.resetAsserted = false → u.linkRefusal c = none → Events u (act u)) :
    Events s (s.onArgument c act) := by
  unfold State.onArgument
  split
  · exact events_outOfReset fun hr => events_takeCommand hr h
  · exact .refl

theorem events_onPort {b : Byte} {act : Port → State → State} {s : State} (hr : s.resetAsserted = false)
    (h : ∀ p, Events s (act p s)) : Events s (s.onPort b act) := by
  unfold State.onPort
  split
  · exact events_respond hr _ _
  · exact h _

theorem events_doClearTable {s : State} (hr : s.resetAsserted = false) (hl : s.linkRefusal .clearTable = none) :
    Events s s.doClearTable :=
  .ofDevice hr ⟨rfl, rfl, rfl, rfl, rfl, rfl, rfl, rfl⟩
    ⟨.inr, fun _ => .inl (ready_of_linkRefusal hl (by simp) (by simp)), .inr⟩

theorem events_deferPurge {s : State} (hr : s.resetAsserted = false) (b : Byte) (hl : s.linkRefusal .purge = none) :
    Events s (s.deferPurge b) :=
  .ofDevice hr ⟨rfl, rfl, rfl, rfl, rfl, rfl, rfl, rfl⟩
    ⟨.inr, .inr, fun _ => .inl (ready_of_linkRefusal hl (by simp) (by simp))⟩

theorem events_doPurge {s : State} (hr : s.resetAsserted = false) (b : Byte) : Events s (s.doPurge b) :=
  (events_respondLater hr).trans (events_purgeSlotNow (s := s.respondLater) hr _).1

theorem events_doFence {s : State} (hr : s.resetAsserted = false) (p : Port) : Events s (s.doFence p) := by
  unfold State.doFence
  split
  next h => exact (Events.ofAct hr (.fence p h) rfl).trans (events_respond (by simpa using hr) _ _)
  · exact events_respond hr _ _

theorem events_doUnfence {s : State} (hr : s.resetAsserted = false) (p : Port) : Events s (s.doUnfence p) := by
  unfold State.doUnfence
  split
  next h => exact (Events.ofAct hr (.unfence p h) rfl).trans (events_respond (by simpa using hr) _ _)
  · exact events_respond hr _ _

theorem events_portReset {s : State} (hr : s.resetAsserted = false) (p : Port) :
    Events s (s.portReset p) ∧ (s.portReset p).resetAsserted = false := by
  unfold State.portReset
  split
  · exact ⟨.refl, hr⟩
  next h =>
    exact ⟨(Events.ofAct hr (.clearOffline h) rfl).trans (events_setReason (by simpa using hr) _), by simpa using hr⟩
  next h => exact ⟨.ofAct hr (.enterDraining (.inl h)) rfl, (Act.enterDraining (.inl h)).resetAsserted.trans hr⟩
  next h => exact ⟨.ofAct hr (.enterDraining (.inr h)) rfl, (Act.enterDraining (.inr h)).resetAsserted.trans hr⟩

theorem events_doPortReset {s : State} (hr : s.resetAsserted = false) (p : Port) : Events s (s.doPortReset p) := by
  unfold State.doPortReset
  split
  · exact events_respond hr _ _
  · exact (events_portReset hr p).1.trans (events_respond (events_portReset hr p).2 _ _)

theorem events_doSetWaitUnit {s : State} (hr : s.resetAsserted = false) (b : Byte) : Events s (s.doSetWaitUnit b) := by
  unfold State.doSetWaitUnit
  split
  · exact events_respond hr _ _
  split
  · exact events_respond hr _ _
  · exact .ofDevice hr ⟨rfl, rfl, rfl, rfl, rfl, rfl, rfl, rfl⟩ (State.noneNew_of_eq rfl rfl rfl)

theorem events_takeCommandByte {s : State} (hr : s.resetAsserted = false) (b : Byte) : Events s (s.takeCommandByte b) := by
  unfold State.takeCommandByte
  split
  · exact (events_settlePurge hr).1.trans (events_respond (events_settlePurge hr).2 _ _)
  · exact events_takeCommand hr fun u hu _ => events_respond hu _ _
  · exact events_takeCommand hr fun u hu _ => events_respond hu _ _
  · exact events_takeCommand hr fun u hu hl => events_doClearTable hu hl
  · exact .ofDevice hr ⟨rfl, rfl, rfl, rfl, rfl, rfl, rfl, rfl⟩ (State.noneNew_of_eq rfl rfl rfl)

theorem events_clockResponse {s : State} (hr : s.resetAsserted = false) : Events s s.clockResponse := by
  unfold State.clockResponse
  split
  · exact .ofDevice hr ⟨rfl, rfl, rfl, rfl, rfl, rfl, rfl, rfl⟩ (State.noneNew_of_eq rfl rfl rfl)
  all_goals exact .refl

theorem events_clearTableSlot {s : State} {i : Slot} (hr : s.resetAsserted = false) (hc : s.clear = some i) :
    Events s ((s.clearOne i).advanceClear i) := by
  have h1 : Events s (s.clearOne i) ∧ (s.clearOne i).resetAsserted = false ∧ (s.clearOne i).clear = some i := by
    unfold State.clearOne
    split
    · exact ⟨.refl, hr, hc⟩
    next rec hs => exact ⟨events_emptySlot hr _ hs, by simpa using hr, by simpa using hc⟩
  obtain ⟨he, hr', hc'⟩ := h1
  refine he.trans ?_
  unfold State.advanceClear
  split
  · have h2 : Events (s.clearOne i) { s.clearOne i with clear := none } :=
      .ofDevice hr' ⟨rfl, rfl, rfl, rfl, rfl, rfl, rfl, rfl⟩ ⟨.inr, fun h => absurd rfl h, .inr⟩
    exact h2.trans (events_deliver (s := { s.clearOne i with clear := none }) hr' _)
  · exact Events.ofDevice hr' ⟨rfl, rfl, rfl, rfl, rfl, rfl, rfl, rfl⟩
      ⟨.inr, fun _ => .inr (by simp [hc']), .inr⟩

/-! ### The clock, the walk and the events of the table -/

theorem events_boundary {s : State} (hr : s.resetAsserted = false) : Events s s.boundary := by
  unfold State.boundary
  split
  next hc =>
    refine (Events.ofAct hr .countDown rfl).trans (Events.ofDevice hr ⟨rfl, rfl, rfl, rfl, rfl, rfl, rfl, rfl⟩ ?_)
    exact ⟨fun _ => .inl hc, .inr, .inr⟩
  · exact .ofDevice hr ⟨rfl, rfl, rfl, rfl, rfl, rfl, rfl, rfl⟩ (State.noneNew_of_eq rfl rfl rfl)

theorem events_tick (s : State) : Events s s.tick := by
  unfold State.tick
  split
  · exact .refl
  next hr =>
    split
    · exact .ofDevice (by simpa using hr) ⟨rfl, rfl, rfl, rfl, rfl, rfl, rfl, rfl⟩ (State.noneNew_of_eq rfl rfl rfl)
    · exact events_boundary (by simpa using hr)

theorem events_body {s : State} (hr : s.resetAsserted = false) {i : Slot} {rec : Record} {body : Body}
    {rs : List (Port × Response)} (hs : (s.slot i).record = some rec)
    (hb : BodyEvent s.freeHoldings none rec.body body rs) : Events s (s.finishEvent i rec { rec with body := body } rs) :=
  .ofAct hr (.body hs hb) rfl

theorem events_grantAt {s : State} (hr : s.resetAsserted = false) (i : Slot) : Events s (s.grantAt i) := by
  unfold State.grantAt
  split
  · exact .refl
  next rec hs =>
    split
    next b hb =>
      split
      · exact .refl
      next w rest hw =>
        split
        next hl => exact events_body hr hs (hb ▸ .pool (.grant hw hl))
        · exact .refl
    all_goals exact .refl

theorem events_expireAt {s : State} (hr : s.resetAsserted = false) (i : Slot) (g : Gen) : Events s (s.expireAt i g) := by
  unfold State.expireAt
  split
  · exact .refl
  next rec hs =>
    split
    next b hb =>
      split
      · unfold State.endWaitersEvent
        rw [List.append_nil]
        exact events_body hr hs (hb ▸ .pool (.ended _ _))
      · exact .refl
    all_goals exact .refl

theorem events_completeDrain {s : State} (hr : s.resetAsserted = false) (i : Slot) : Events s (s.completeDrain i) := by
  unfold State.completeDrain
  split
  · exact .refl
  next rec hs =>
    split
    · exact events_emptySlot hr _ hs
    · exact .refl

/-- The Record Table is active out of reset alone. -/
theorem resetAsserted_of_tableActive {s : State} (h : s.tableActive = true) : s.resetAsserted = false := by
  simp [State.tableActive] at h; exact h.1

/-- The port that the Walker serves is walking. -/
theorem walking_of_walkPort {s : State} {p : Port} (h : s.walkPort = some p) : s.walking p = true :=
  List.find?_some (p := s.walking) h

theorem events_walkTurn (s : State) : Events s s.walkTurn := by
  unfold State.walkTurn
  split
  next ht =>
    have hr := (State.inService_of_turn ht).1.1
    split
    next p hp =>
      have h1 : Events s (s.serve .walker) :=
        .ofDevice hr ⟨rfl, rfl, rfl, rfl, rfl, rfl, rfl, rfl⟩ (State.noneNew_of_eq rfl rfl rfl)
      have hact : Act (s.serve .walker) _ := .walk (p := p) (walking_of_walkPort hp)
      refine (h1.trans (Events.ofAct hr hact rfl)).trans ?_
      refine Events.ofDevice (hact.resetAsserted.trans hr) ⟨rfl, rfl, rfl, rfl, rfl, rfl, rfl, rfl⟩ (State.noneNew_of_eq rfl rfl rfl)
    · exact .refl
  · exact .refl

/-- A turn is a run of events when its request is at the head of its port's queue, and nothing otherwise. -/
theorem events_onTurn {s : State} {p : Port} {c : ReqCode} {take : Port → Request → State → State}
    (h : ∀ r rest, s.atTurn p c r rest → Events s (take p r (s.turnTaken p rest))) : Events s (s.onTurn p c take) := by
  by_cases hn : ∃ r rest, s.atTurn p c r rest
  · obtain ⟨r, rest, ht⟩ := hn
    rw [State.onTurn_atTurn ht]
    exact h r rest ht
  · rw [State.onTurn_not fun r rest ht => hn ⟨r, rest, ht⟩]

/-- The entry into DRAINING clears the intake queue, so what the turn took from it makes no difference. -/
theorem State.enterDraining_turnTaken (p : Port) (rest : List Request) (s : State) :
    (s.turnTaken p rest).enterDraining p = (s.serve (.port p)).enterDraining p := by
  have h : (s.turnTaken p rest).modifyPort p (PortState.cleared .draining) =
      (s.serve (.port p)).modifyPort p (PortState.cleared .draining) := by
    simp [State.modifyPort, State.turnTaken, State.serve, State.port, PortState.cleared]
  simp only [State.enterDraining, h]

theorem events_detach {s : State} {p : Port} {r : Request} {rest : List Request} (h : s.atTurn p .detach r rest) :
    Events s (takeDetach p r (s.turnTaken p rest)) := by
  have hr := (State.inService_of_turn h.1).1.1
  have hm := State.atTurn_online h
  have he : takeDetach p r (s.turnTaken p rest) = (s.turnTaken p rest).enterDraining p := by
    simp [takeDetach, State.portReset, hm]
  rw [he, State.enterDraining_turnTaken]
  refine .trans (b := s.serve (.port p)) ?_ (Events.ofAct hr (.enterDraining (.inl hm)) rfl)
  exact Events.ofDevice hr ⟨rfl, rfl, rfl, rfl, rfl, rfl, rfl, rfl⟩ (State.noneNew_of_eq rfl rfl rfl)

/-- A command that takes a request is a run of events. -/
theorem events_request {s t : State} {p : Port} {c : ReqCode} {i : Instr} (hi : ReqCode.taken p c = some i)
    (ht : exec i s = .next t) : Events s t := by
  by_cases hd : c = .detach
  · subst hd
    obtain rfl : Instr.detach p = i := by simpa [ReqCode.taken] using hi
    obtain rfl : s.onTurn p .detach takeDetach = t := Host.Outcome.next.inj ht
    exact events_onTurn fun r rest h => events_detach h
  · by_cases hn : ∃ r rest, s.atTurn p c r rest
    · obtain ⟨r, rest, h⟩ := hn
      obtain ⟨u, hu, he⟩ := exec_request hi hd h
      obtain rfl : u = t := Host.Outcome.next.inj (hu.symm.trans ht)
      exact .ofAct (State.inService_of_turn h.1).1.1 (.request h he) rfl
    · have hs : exec i s = .next s := by
        have := fun take => State.onTurn_not (fun r rest h => hn ⟨r, rest, h⟩) take
        cases c <;> simp only [ReqCode.taken, Option.some.injEq, reduceCtorEq] at hi <;> subst hi <;>
          exact congrArg Host.Outcome.next (this _)
      obtain rfl : s = t := Host.Outcome.next.inj (hs.symm.trans ht)
      exact .refl

/-! ### Every step is a run of events -/

theorem events_windowWrite {s : State} (hr : s.resetAsserted = false) (p : Port) (offset : BitVec 3) (w : Word) :
    Events s (s.writeWindow p offset w) := by
  unfold State.writeWindow
  split
  · exact .ofAct hr (.stage p w) rfl
  · exact .ofAct hr (.submit p w) rfl
  · exact .ofAct hr (.control p w) rfl
  · exact .refl

/-- Chip select opens a frame, but none in reset (R168, R172). -/
theorem events_openFrame (s : State) : Events s s.openFrame := by
  unfold State.openFrame
  split
  · exact .refl
  split
  next hr =>
    refine .single (.device ⟨rfl, rfl, rfl, rfl, rfl, rfl, rfl, rfl⟩ (State.noneNew_of_eq rfl rfl rfl) fun h _ => ?_)
    rw [h hr]
  next hr =>
    exact .ofDevice (by simpa using hr) ⟨rfl, rfl, rfl, rfl, rfl, rfl, rfl, rfl⟩ (State.noneNew_of_eq rfl rfl rfl)

theorem events_selfCheck (s : State) (e : SelfCheckEvent) (t : State) (h : exec (.selfCheck e) s = .next t) :
    Events s t := by
  cases e with
  | resetReleased =>
    obtain rfl : { s with resetAsserted := false } = t := Host.Outcome.next.inj h
    exact .ofDevice rfl ⟨rfl, rfl, rfl, rfl, rfl, rfl, rfl, rfl⟩ (State.noneNew_of_eq rfl rfl rfl)
  | wordFailed a =>
    obtain rfl : (if s.checking then { s with failedAreas := s.failedAreas.add a } else s) = t := Host.Outcome.next.inj h
    split
    next hc =>
      simp only [State.checking, Bool.and_eq_true, Bool.not_eq_true'] at hc
      exact .ofDevice hc.1 ⟨rfl, rfl, rfl, rfl, rfl, rfl, rfl, rfl⟩ (State.noneNew_of_eq rfl rfl rfl)
    · exact .refl

theorem events_frameEnd (s : State) : Events s { s with chipSelect := false, frame := .idle, sdo := none } := by
  refine .single (.device ⟨rfl, rfl, rfl, rfl, rfl, rfl, rfl, rfl⟩ (State.noneNew_of_eq rfl rfl rfl) fun h hr => ?_)
  rw [h hr]
  rfl

/-- The command taken from the queue is no event. -/
theorem events_pending (s : State) (rest : List Instr) : Events s { s with pending := rest } := by
  refine .single (.device ⟨rfl, rfl, rfl, rfl, rfl, rfl, rfl, rfl⟩ (State.noneNew_of_eq rfl rfl rfl) fun h hr => ?_)
  rw [h hr]

/-- What a command does is a run of events. -/
theorem exec_events {c : Instr} {s t : State} (h : exec c s = .next t) : Events s t := by
  have hin : ∀ u, exec c s = .next u → u = t := fun u hu => Host.Outcome.next.inj (hu.symm.trans h)
  cases c with
  | deviceReset => exact hin _ rfl ▸ .single (.deviceReset true)
  | powerOn held => exact hin _ rfl ▸ .single (.deviceReset held)
  | selfCheck e => exact events_selfCheck s e t h
  | selfCheckEnd =>
    refine hin _ rfl ▸ ?_
    split
    next hc =>
      simp only [State.checking, Bool.and_eq_true, Bool.not_eq_true', beq_iff_eq] at hc
      exact .ofAct hc.1 (.endSelfCheck hc.2) rfl
    · exact .refl
  | stageWrite p w => exact hin _ rfl ▸ events_outOfReset fun hr => .ofAct hr (.stage p w) rfl
  | submission p w => exact hin _ rfl ▸ events_outOfReset fun hr => .ofAct hr (.submit p w) rfl
  | attach p g => exact hin _ rfl ▸ events_outOfReset fun hr => .ofAct hr (.submit p _) rfl
  | responseRead p => exact hin _ rfl ▸ events_outOfReset fun hr => .ofAct hr (.readResponse p) rfl
  | attentionEnables p w | clearRefusal p w | clearStaging p w =>
    exact hin _ rfl ▸ events_outOfReset fun hr => .ofAct hr (.control p w) rfl
  | ignoredWrite p o w => exact hin _ rfl ▸ events_outOfReset fun hr => events_windowWrite hr p o w
  | grant i =>
    refine hin _ rfl ▸ ?_
    split
    next ha => exact events_grantAt (resetAsserted_of_tableActive ha) i
    · exact .refl
  | drainCompletion i =>
    refine hin _ rfl ▸ ?_
    split
    next ha => exact events_completeDrain (resetAsserted_of_tableActive ha) i
    · exact .refl
  | unitBoundary =>
    refine hin _ rfl ▸ ?_
    split
    · exact .refl
    next hr => exact events_boundary (by simpa using hr)
  | expiry i g =>
    refine hin _ rfl ▸ ?_
    split
    next ha =>
      have hc : s.condition = .ready := by
        simp only [State.tableActive, Bool.and_eq_true, beq_iff_eq] at ha; exact ha.1.2
      have hr := resetAsserted_of_tableActive (Bool.and_eq_true_iff.1 ha).1
      have h1 : Events s { s with expiryEvents := s.expiryEvents.erase (i, g) } :=
        .ofDevice hr ⟨rfl, rfl, rfl, rfl, rfl, rfl, rfl, rfl⟩ ⟨fun _ => .inl hc, .inr, .inr⟩
      exact h1.trans (events_expireAt (s := { s with expiryEvents := s.expiryEvents.erase (i, g) }) hr i g)
    · exact .refl
  | prstAssertion p => exact hin _ rfl ▸ events_outOfReset fun hr => (events_portReset hr p).1
  | walkStep => exact hin _ rfl ▸ events_walkTurn s
  | frameStart => exact hin _ rfl ▸ events_openFrame s
  | frameEnd => exact hin _ rfl ▸ events_frameEnd s
  | unknownCommand b | commandByte b =>
    refine hin _ rfl ▸ ?_
    split
    · exact events_outOfReset fun hr => events_takeCommandByte hr b
    · exact .refl
  | status => exact hin _ rfl ▸ events_onCommand fun u hu _ => events_respond hu _ _
  | counts => exact hin _ rfl ▸ events_onCommand fun u hu _ => events_respond hu _ _
  | readRecord b => exact hin _ rfl ▸ events_onArgument fun u hu _ => events_respond hu _ _
  | purge m =>
    cases m with
    | atOnce b => exact hin _ rfl ▸ events_onArgument fun u hu _ => events_doPurge hu b
    | deferred b => exact hin _ rfl ▸ events_onArgument fun u hu hl => events_deferPurge hu b hl
    | work => exact hin _ rfl ▸ events_outOfReset fun hr => (events_settlePurge hr).1
  | clearTable => exact hin _ rfl ▸ events_onCommand fun u hu hl => events_doClearTable hu hl
  | clearTableSlot =>
    refine hin _ rfl ▸ ?_
    split
    · exact .refl
    next i hc => exact events_outOfReset fun hr => events_clearTableSlot hr hc
  | fence b => exact hin _ rfl ▸ events_onArgument fun u hu _ => events_onPort hu (events_doFence hu)
  | unfence b => exact hin _ rfl ▸ events_onArgument fun u hu _ => events_onPort hu (events_doUnfence hu)
  | portReset b => exact hin _ rfl ▸ events_onArgument fun u hu _ => events_onPort hu (events_doPortReset hu)
  | setWaitUnit b => exact hin _ rfl ▸ events_onArgument fun u hu _ => events_doSetWaitUnit hu b
  | setMattnMask b | clearMattn b =>
    refine hin _ rfl ▸ events_onArgument fun u hu _ => .ofDevice hu ⟨rfl, rfl, rfl, rfl, rfl, rfl, rfl, rfl⟩ ?_
    exact State.noneNew_of_eq rfl rfl rfl
  | responsePhaseByte b => exact hin _ rfl ▸ events_outOfReset events_clockResponse
  | _ => exact events_request (Laws.RequestRows.taken_requestOf rfl) h

theorem step_events {s t : State} (h : step s = .next t) : Events s t := by
  unfold step at h
  split at h
  · obtain rfl := Host.Outcome.next.inj h
    exact events_tick s
  · exact (events_pending s _).trans (exec_events h)

/-- A law that every event keeps, every step keeps. -/
theorem step_keeps {P : State → Prop} (he : ∀ s t : State, P s → Event s t → P t) {s t : State} (hs : P s)
    (h : step s = .next t) : P t := by
  have hrun : ∀ u, Events s u → P u := by
    intro u hu
    induction hu with
    | refl => exact hs
    | tail _ hev ih => exact he _ _ ih hev
  exact hrun t (step_events h)

end Sys2Proof.Machine
end

section
/-! What the events on a POOL keep: its units and holding list, its queue of waiters, and the tags they carry (03, 04). -/

namespace Sys2Proof.Machine

/-! ### The entry of a port in a holding list -/

/-- A port with an entry has a first one. -/
theorem Pool.split_of_lists {b : Pool} {p : Port} (h : b.lists p = true) :
    ∃ (front : List Holding) (x : Holding) (back : List Holding), b.holdings = front ++ x :: back ∧ x.port = p ∧
      ∀ y ∈ front, y.port ≠ p := by
  obtain ⟨x, hx⟩ := Option.isSome_iff_exists.1 (List.find?_isSome (p := fun h : Holding => h.port == p).2 (by
    simpa [Pool.lists] using h))
  obtain ⟨hp, front, back, hs, hf⟩ := List.find?_eq_some_iff_append.1 hx
  exact ⟨front, x, back, hs, by simpa using hp, fun y hy => by simpa using hf y hy⟩

/-- The units a port holds are those of its first entry (R41). -/
theorem Pool.unitsOf_split {b : Pool} {p : Port} {front back : List Holding} {x : Holding}
    (hs : b.holdings = front ++ x :: back) (hx : x.port = p) (hf : ∀ y ∈ front, y.port ≠ p) : b.unitsOf p = x.units := by
  have hfind : b.holdings.find? (fun h => h.port == p) = some x := by
    rw [List.find?_eq_some_iff_append]
    exact ⟨by simp [hx], front, back, hs, fun y hy => by simpa using hf y hy⟩
  rw [unitsOf_eq, hfind]
  rfl

/-- A port without an entry holds nothing. -/
theorem Pool.unitsOf_unlisted {b : Pool} {p : Port} (h : b.lists p = false) : b.unitsOf p = 0 := by
  by_contra hne
  rw [lists_of_unitsOf hne] at h
  cases h

theorem Pool.lists_false {b : Pool} {p : Port} : b.lists p = false ↔ ∀ h ∈ b.holdings, h.port ≠ p := by
  simp [Pool.lists]

/-- Of a list with one entry for a port, the other ports' entries are all but that one. -/
theorem filter_ports_split {p : Port} {front back : List Holding} {x : Holding} (hx : x.port = p)
    (hf : ∀ y ∈ front, y.port ≠ p) (hb : ∀ y ∈ back, y.port ≠ p) :
    (front ++ x :: back).filter (fun h => h.port != p) = front ++ back := by
  rw [List.filter_append, List.filter_cons_of_neg (by simp [hx]), List.filter_eq_self.2 fun y hy => by simpa using hf y hy,
    List.filter_eq_self.2 fun y hy => by simpa using hb y hy]

/-- Behind a port's first entry a list without repeated ports has none of that port. -/
theorem back_of_nodup {p : Port} {front back : List Holding} {x : Holding}
    (hn : ((front ++ x :: back).map (·.port)).Nodup) (hx : x.port = p) : ∀ y ∈ back, y.port ≠ p := by
  intro y hy hyp
  rw [List.map_append, List.map_cons, List.nodup_append] at hn
  exact (List.nodup_cons.1 hn.2.1).1 (List.mem_map.2 ⟨y, hy, hyp.trans hx.symm⟩)

/-! ### Giving units back (R45, R52) -/

@[simp] theorem Pool.giveBack_level (p : Port) (n : Nat) (b : Pool) : (b.giveBack p n).level = b.level + n := by
  unfold Pool.giveBack; split <;> rfl
@[simp] theorem Pool.giveBack_stock (p : Port) (n : Nat) (b : Pool) : (b.giveBack p n).stock = b.stock := by
  unfold Pool.giveBack; split <;> rfl
@[simp] theorem Pool.giveBack_lowMark (p : Port) (n : Nat) (b : Pool) : (b.giveBack p n).lowMark = b.lowMark := by
  unfold Pool.giveBack; split <;> rfl

theorem Pool.giveBack_whole {p : Port} {n : Nat} {b : Pool} (h : b.unitsOf p ≤ n) :
    (b.giveBack p n).holdings = b.holdings.filter (fun h => h.port != p) ∧
    (b.giveBack p n).waiters =
      if b.waiters.any (fun w => w.port == p && w.reserved) then b.waiters else giveReservation p b.waiters := by
  unfold Pool.giveBack; rw [if_pos h]; exact ⟨rfl, rfl⟩

theorem Pool.giveBack_part {p : Port} {n : Nat} {b : Pool} (h : n < b.unitsOf p) :
    (b.giveBack p n).holdings =
      updateFirst (fun h => h.port == p) (fun h => { h with units := h.units - n }) b.holdings ∧
    (b.giveBack p n).waiters = b.waiters := by
  unfold Pool.giveBack; rw [if_neg (by omega)]; exact ⟨rfl, rfl⟩

theorem Pool.giveBack_part_split {p : Port} {n : Nat} {b : Pool} {front back : List Holding} {x : Holding}
    (h : n < b.unitsOf p) (hs : b.holdings = front ++ x :: back) (hx : x.port = p) (hf : ∀ y ∈ front, y.port ≠ p) :
    (b.giveBack p n).holdings = front ++ ⟨p, x.units - n⟩ :: back := by
  rw [(Pool.giveBack_part h).1, hs, updateFirst_split (fun y hy => by simpa using hf y hy) (by simp [hx])]
  simp [hx]

@[simp] theorem Pool.core_giveBack (p : Port) (n : Nat) (b : Pool) :
    (b.giveBack p n).waiters.map Waiter.core = b.waiters.map Waiter.core := by
  rcases Nat.lt_or_ge n (b.unitsOf p) with h | h
  · rw [(Pool.giveBack_part h).2]
  · rw [(Pool.giveBack_whole h).2]
    split <;> simp

/-- The ports with an entry after units are given back. -/
theorem Pool.ports_giveBack_part {p : Port} {n : Nat} {b : Pool} (h : n < b.unitsOf p) :
    (b.giveBack p n).holdings.map (·.port) = b.holdings.map (·.port) := by
  rw [(Pool.giveBack_part h).1]
  exact map_updateFirst (·.port) _ (fun h : Holding => { h with units := h.units - n }) (fun _ _ => rfl) _

/-- Units given back leave the holding list and join the level (R40). -/
theorem Pool.units_giveBack {p : Port} {n : Nat} {b : Pool} (hn : (b.holdings.map (·.port)).Nodup) (hl : b.lists p = true)
    (hu : n ≤ b.unitsOf p) : (b.giveBack p n).heldUnits + n = b.heldUnits := by
  obtain ⟨front, x, back, hs, hx, hf⟩ := Pool.split_of_lists hl
  have hux := Pool.unitsOf_split hs hx hf
  rcases Nat.lt_or_ge n (b.unitsOf p) with h | h
  · rw [Pool.heldUnits, Pool.giveBack_part_split h hs hx hf, Pool.heldUnits, hs]
    simp
    omega
  · rw [Pool.heldUnits, (Pool.giveBack_whole h).1, Pool.heldUnits, hs,
      filter_ports_split hx hf (back_of_nodup (hs ▸ hn) hx)]
    simp
    omega

/-! ### The laws of a POOL's body (R40, R41, R63) -/

/-- Whether a waiter is legal is seen without its reservation mark. -/
theorem waiters_legal_of_core {ws vs : List Waiter} {stock : Nat}
    (hc : ∀ c ∈ ws.map Waiter.core, c ∈ vs.map Waiter.core) (hv : ∀ v ∈ vs, v.legal stock) : ∀ w ∈ ws, w.legal stock := by
  intro w hw
  obtain ⟨v, hvm, hve⟩ := List.mem_map.1 (hc _ (List.mem_map_of_mem hw))
  simp only [Waiter.core, Prod.mk.injEq] at hve
  have h := hv v hvm
  rw [Waiter.legal, hve.2.2.1, hve.2.2.2] at h
  exact h

theorem Waiter.legal_mono {w : Waiter} {m n : Nat} (h : w.legal m) (hmn : m ≤ n) : w.legal n :=
  ⟨h.1, h.2.1.trans hmn, h.2.2⟩

/-- A holding list whose entries have units keeps them when units join it. -/
theorem one_le_addUnits {p : Port} {n : Nat} {hs : List Holding} (hn : 1 ≤ n) (h : ∀ x ∈ hs, 1 ≤ x.units) :
    ∀ x ∈ addUnits p n hs, 1 ≤ x.units := by
  intro x hx
  unfold addUnits at hx
  split at hx
  · rcases mem_updateFirst hx with hx | ⟨y, hy, -, rfl⟩
    · exact h x hx
    · exact le_add_right (h y hy)
  · rcases List.mem_append.1 hx with hx | hx
    · exact h x hx
    · rw [List.mem_singleton.1 hx]; exact hn

theorem Pool.legal_take {b : Pool} {p : Port} {n : Nat} (h : b.legal) (hn : n ≠ 0) (hl : n ≤ b.level) :
    (b.take p n).legal := by
  obtain ⟨h1, h2, h3, h4, h5, h6⟩ := h
  refine ⟨?_, h2, h3, nodup_addUnits h4, one_le_addUnits (Nat.one_le_iff_ne_zero.2 hn) h5, h6⟩
  simp only [Pool.take, Pool.heldUnits, units_addUnits] at h1 ⊢
  omega

theorem Pool.legal_grantHead {b : Pool} {w : Waiter} {rest : List Waiter} (h : b.legal) (hw : b.waiters = w :: rest)
    (hl : w.units ≤ b.level) : (b.grantHead w rest).legal := by
  obtain ⟨h1, h2, h3, h4, h5, h6⟩ := h
  have hwl := h6 w (by simp [hw])
  refine ⟨(units_grantHead hl rest).trans h1, h2, h3, nodup_addUnits h4, one_le_addUnits hwl.1 h5, ?_⟩
  refine waiters_legal_of_core (vs := b.waiters) (fun c hc => ?_) h6
  rw [core_grantHead] at hc
  rw [hw, List.map_cons]
  exact List.mem_cons_of_mem _ hc

theorem Pool.legal_cascade {b : Pool} (h : b.legal) : b.cascade.1.legal :=
  cascade_induction (P := Pool.legal) (fun _ _ _ h hw hl => Pool.legal_grantHead h hw hl) b h

theorem Pool.legal_giveBack {b : Pool} {p : Port} {n : Nat} (h : b.legal) (hl : b.lists p = true) (hu : n ≤ b.unitsOf p) :
    (b.giveBack p n).legal := by
  obtain ⟨h1, h2, h3, h4, h5, h6⟩ := h
  have hheld := Pool.units_giveBack h4 hl hu
  refine ⟨by simp; omega, by simpa using h2, by simpa using h3, ?_, ?_, ?_⟩
  · rcases Nat.lt_or_ge n (b.unitsOf p) with h | h
    · rw [Pool.ports_giveBack_part h]; exact h4
    · rw [(Pool.giveBack_whole h).1]; exact h4.sublist (List.filter_sublist.map _)
  · rcases Nat.lt_or_ge n (b.unitsOf p) with h | h
    · obtain ⟨front, x, back, hs, hx, hf⟩ := Pool.split_of_lists hl
      rw [Pool.giveBack_part_split h hs hx hf]
      rw [Pool.unitsOf_split hs hx hf] at h
      intro y hy
      rcases List.mem_append.1 hy with hy | hy
      · exact h5 y (by simp [hs, hy])
      · rcases List.mem_cons.1 hy with rfl | hy
        · dsimp only; omega
        · exact h5 y (by simp [hs, hy])
    · rw [(Pool.giveBack_whole h).1]
      exact fun y hy => h5 y (List.mem_of_mem_filter hy)
  · rw [Pool.giveBack_stock]
    exact waiters_legal_of_core (vs := b.waiters) (fun c hc => by simpa using hc) h6

theorem Pool.legal_raise {b : Pool} {n : Nat} (h : b.legal) (hn : b.stock + n ≤ 65535) :
    ({ b with stock := b.stock + n, level := b.level + n } : Pool).legal := by
  obtain ⟨h1, h2, h3, h4, h5, h6⟩ := h
  refine ⟨?_, hn, h3, h4, h5, fun w hw => Waiter.legal_mono (h6 w hw) (Nat.le_add_right _ _)⟩
  simp only [Pool.heldUnits] at h1 ⊢
  omega

/-- Waiters that end leave a queue of which the others stand on. -/
theorem waiters_endWaiters_legal {b : Pool} {q : Waiter → Bool} {stock : Nat}
    (h : ∀ w ∈ b.waiters, q w = false → w.legal stock) : ∀ w ∈ (b.endWaiters q).waiters, w.legal stock := by
  refine waiters_legal_of_core (vs := b.waiters.filter fun w => !q w) (fun c hc => ?_) fun v hv => ?_
  · rw [core_endWaiters] at hc; exact hc
  · obtain ⟨hv, hq⟩ := List.mem_filter.1 hv
    exact h v hv (by simpa using hq)

theorem Pool.legal_endWaiters {b : Pool} (q : Waiter → Bool) (h : b.legal) : (b.endWaiters q).legal := by
  obtain ⟨h1, h2, h3, h4, h5, h6⟩ := h
  exact ⟨h1, h2, h3, h4, h5, waiters_endWaiters_legal fun w hw _ => h6 w hw⟩

/-- A fall of the stock ends the waiters above it, so those that stay are within it (R57, R63). -/
theorem Pool.legal_lower {b : Pool} {n : Nat} (h : b.legal) (hn : n ≤ b.level) :
    (({ b with stock := b.stock - n, level := b.level - n } : Pool).endWaiters (aboveStock (b.stock - n))).legal := by
  obtain ⟨h1, h2, h3, h4, h5, h6⟩ := h
  refine ⟨?_, (Nat.sub_le _ _).trans h2, h3, h4, h5, ?_⟩
  · simp only [Pool.heldUnits, endWaiters_level, endWaiters_stock, endWaiters_holdings] at h1 ⊢
    omega
  · refine waiters_endWaiters_legal fun w hw hq => ?_
    obtain ⟨hw1, -, hw3⟩ := h6 w hw
    exact ⟨hw1, by simpa [aboveStock] using hq, hw3⟩

theorem Pool.legal_endAndCascade {b : Pool} (q : Waiter → Bool) (h : b.legal) : (b.endAndCascade q).1.legal := by
  unfold Pool.endAndCascade
  split
  · exact Pool.legal_cascade (Pool.legal_endWaiters q h)
  · exact Pool.legal_endWaiters q h

theorem PoolEvent.legal {free : Nat} {taker : Option Port} {b b1 : Pool} {rs : List (Port × Response)}
    (he : PoolEvent free taker b b1 rs) (h : b.legal) : b1.legal := by
  cases he with
  | same => exact h
  | limits hn => exact ⟨h.1, h.2.1, hn, h.2.2.2⟩
  | take _ hn _ hl _ => exact Pool.legal_take h hn hl
  | release hp hn => exact Pool.legal_cascade (Pool.legal_giveBack h hp hn)
  | raise hn => exact Pool.legal_cascade (Pool.legal_raise h hn)
  | lower hn => exact Pool.legal_cascade (Pool.legal_lower h hn)
  | grant hw hl => exact Pool.legal_grantHead h hw hl
  | ended q result => exact Pool.legal_endAndCascade q h

theorem BodyEvent.legal {free : Nat} {taker : Option Port} {x y : Body} {rs : List (Port × Response)}
    (he : BodyEvent free taker x y rs) (h : x.legal) : y.legal := by
  cases he with
  | pool hp => exact hp.legal h
  | counter hc => exact hc h
  | flags hf _ => exact hf h
  | sequence hs => exact hs h

/-! ### The head of the queue (R65) -/

/-- After a cascade the queue is empty or its head's units exceed the level. -/
theorem headBlocked_cascade (b : Pool) (w : Waiter) (hw : b.cascade.1.waiters.head? = some w) :
    b.cascade.1.level < w.units :=
  cascadeUpTo_stops _ b (Nat.le_refl _) w hw

/-- The head of a queue, without its reservation mark, is seen on the queue without marks. -/
theorem head_core {ws vs : List Waiter} (h : ws.map Waiter.core = vs.map Waiter.core) {w : Waiter}
    (hw : ws.head? = some w) : ∃ v, vs.head? = some v ∧ v.units = w.units := by
  have := congrArg List.head? h
  rw [List.head?_map, List.head?_map, hw] at this
  cases hv : vs.head? with
  | none => simp [hv] at this
  | some v =>
    simp only [hv, Option.map_some, Option.some.injEq, Waiter.core, Prod.mk.injEq] at this
    exact ⟨v, rfl, this.2.2.1.symm⟩

/-- Waiters that end behind the head leave the head where it stands. -/
theorem head_filter {q : Waiter → Bool} {ws : List Waiter} (h : ws.head?.any q = false) :
    (ws.filter fun w => !q w).head? = ws.head? := by
  cases ws with
  | nil => rfl
  | cons w ws => rw [List.filter_cons_of_pos (by simpa using h)]; rfl

theorem PoolEvent.headBlocked {free : Nat} {taker : Option Port} {b b1 : Pool} {rs : List (Port × Response)}
    (he : PoolEvent free taker b b1 rs) (h : (Body.pool b).headBlocked) : (Body.pool b1).headBlocked := by
  cases he with
  | same => exact h
  | limits hn => exact h
  | take _ _ hw _ _ => intro w hw'; simp [Pool.take, hw] at hw'
  | release => exact headBlocked_cascade _
  | raise => exact headBlocked_cascade _
  | lower => exact headBlocked_cascade _
  | grant hw hl => exact absurd (h _ (by rw [hw]; rfl)) (Nat.not_lt.2 hl)
  | ended q result =>
    unfold Pool.endAndCascade
    split
    · exact headBlocked_cascade _
    next hq =>
      intro w hw
      obtain ⟨v, hv, hu⟩ := head_core (core_endWaiters q b) hw
      rw [head_filter (by simpa using hq)] at hv
      exact hu ▸ h v hv

theorem BodyEvent.headBlocked {free : Nat} {taker : Option Port} {x y : Body} {rs : List (Port × Response)}
    (he : BodyEvent free taker x y rs) (h : x.headBlocked) : y.headBlocked := by
  cases he with
  | pool hp => exact hp.headBlocked h
  | _ => trivial

/-! ### The waiters of an event and their responses (R12, R142) -/

/-- The request a waiter waits for: its port and tag. -/
def Waiter.who (w : Waiter) : Port × Tag := (w.port, w.tag)

/-- The request a response answers: its port and tag. -/
def answered (x : Port × Response) : Port × Tag := (x.1, x.2.tag)

theorem who_of_core {ws vs : List Waiter} (h : ws.map Waiter.core = vs.map Waiter.core) :
    ws.map Waiter.who = vs.map Waiter.who := by
  have hf : ∀ l : List Waiter, l.map Waiter.who = (l.map Waiter.core).map fun c => (c.1, c.2.1) := by
    intro l; rw [List.map_map]; rfl
  rw [hf, h, ← hf]

/-- A cascade answers the waiters it grants, which are the first of the queue, and leaves the others. -/
theorem who_cascadeUpTo (n : Nat) (b : Pool) :
    (Pool.cascadeUpTo n b).2.map answered ++ (Pool.cascadeUpTo n b).1.waiters.map Waiter.who =
      b.waiters.map Waiter.who := by
  induction n generalizing b with
  | zero => rfl
  | succ n ih =>
    cases hb : b.waiters with
    | nil => rw [cascadeUpTo_blocked (by simp [hb])]; simp [hb]
    | cons w rest =>
      by_cases hu : w.units ≤ b.level
      · rw [cascadeUpTo_grant hb hu, List.map_cons, List.cons_append, ih, who_of_core (core_grantHead w rest b)]
        rfl
      · rw [cascadeUpTo_blocked (by simp [hb]; omega)]; simp [hb]

theorem who_cascade (b : Pool) :
    b.cascade.2.map answered ++ b.cascade.1.waiters.map Waiter.who = b.waiters.map Waiter.who :=
  who_cascadeUpTo _ b

/-- The merged responses of an event are those of the waiters that ended and those of the grants. -/
theorem mergeResponses_perm (q : Waiter → Bool) (r : ResultCode) (ws : List Waiter) (grants : List (Port × Response))
    (h : grants.length ≤ (ws.filter fun w => !q w).length) :
    (mergeResponses q (some r) ws grants).Perm
      ((ws.filter q).map (fun w => (w.port, (⟨w.tag, r, []⟩ : Response))) ++ grants) := by
  induction ws generalizing grants with
  | nil => simp [mergeResponses]
  | cons w ws ih =>
    unfold mergeResponses
    by_cases hq : q w = true
    · simp only [hq, if_true, List.filter_cons_of_pos, List.map_cons, List.cons_append]
      exact (ih grants (by simpa [hq] using h)).cons _
    · have hq' : q w = false := by simpa using hq
      cases grants with
      | nil => simpa [hq'] using ih [] (by simp)
      | cons g gs =>
        simp only [hq', List.filter_cons_of_neg, Bool.false_eq_true, if_false, not_false_iff]
        refine ((ih gs (by simpa [hq'] using h)).cons g).trans ?_
        exact List.perm_middle.symm

theorem who_endWaiters (q : Waiter → Bool) (b : Pool) :
    (b.endWaiters q).waiters.map Waiter.who = (b.waiters.filter fun w => !q w).map Waiter.who :=
  who_of_core (core_endWaiters q b)

/-- An event that ends waiters and runs the cascade answers each waiter that leaves the queue, once. -/
theorem who_mergeResponses (q : Waiter → Bool) (r : ResultCode) (ws : List Waiter) {b : Pool}
    (hb : b.waiters.map Waiter.who = (ws.filter fun w => !q w).map Waiter.who) :
    ((mergeResponses q (some r) ws b.cascade.2).map answered ++ b.cascade.1.waiters.map Waiter.who).Perm
      (ws.map Waiter.who) := by
  have hlen : b.cascade.2.length ≤ (ws.filter fun w => !q w).length := by
    have := congrArg List.length ((who_cascade b).trans hb)
    simp only [List.length_append, List.length_map] at this
    omega
  refine (((mergeResponses_perm q r ws _ hlen).map _).append_right _).trans ?_
  rw [List.map_append, List.append_assoc, who_cascade, hb, List.map_map]
  have := (List.filter_append_perm q ws).map Waiter.who
  rw [List.map_append] at this
  exact this

theorem PoolEvent.who {free : Nat} {taker : Option Port} {b b1 : Pool} {rs : List (Port × Response)}
    (he : PoolEvent free taker b b1 rs) :
    (rs.map answered ++ b1.waiters.map Waiter.who).Perm (b.waiters.map Waiter.who) := by
  cases he with
  | same => exact .refl _
  | limits => exact .refl _
  | take => exact .refl _
  | release =>
    rw [who_cascade, who_of_core (Pool.core_giveBack _ _ b)]
  | raise => rw [who_cascade]
  | lower => exact who_mergeResponses _ _ _ (who_endWaiters _ _)
  | grant hw hl =>
    rw [who_of_core (core_grantHead _ _ b), hw]
    exact .refl _
  | ended q result =>
    unfold Pool.endAndCascade
    split
    · exact who_mergeResponses _ _ _ (who_endWaiters _ _)
    · rw [mergeResponses_nil, who_endWaiters, List.map_map]
      have := (List.filter_append_perm q b.waiters).map Waiter.who
      rw [List.map_append] at this
      exact this

theorem BodyEvent.who {free : Nat} {taker : Option Port} {x y : Body} {rs : List (Port × Response)}
    (he : BodyEvent free taker x y rs) :
    (rs.map answered ++ y.waiters.map Waiter.who).Perm (x.waiters.map Waiter.who) := by
  cases he with
  | pool hp => exact hp.who
  | _ => exact .refl _

/-- An event brings a body no waiter. -/
theorem BodyEvent.waiters_nil {free : Nat} {taker : Option Port} {x y : Body} {rs : List (Port × Response)}
    (he : BodyEvent free taker x y rs) (h : x.waiters = []) : y.waiters = [] := by
  have := he.who
  rw [h, List.map_nil, List.perm_nil, List.append_eq_nil_iff, List.map_eq_nil_iff, List.map_eq_nil_iff] at this
  exact this.2

/-- The waiters after an event are among those before it, by port and tag. -/
theorem BodyEvent.who_subset {free : Nat} {taker : Option Port} {x y : Body} {rs : List (Port × Response)}
    (he : BodyEvent free taker x y rs) {w : Waiter} (hw : w ∈ y.waiters) : ∃ v ∈ x.waiters, v.who = w.who := by
  have : w.who ∈ x.waiters.map Waiter.who :=
    he.who.subset (List.mem_append_right _ (List.mem_map_of_mem hw))
  exact List.mem_map.1 this

/-- The responses of an event on a body go to waiters of it. -/
theorem BodyEvent.responses_subset {free : Nat} {taker : Option Port} {x y : Body} {rs : List (Port × Response)}
    (he : BodyEvent free taker x y rs) {a : Port × Response} (ha : a ∈ rs) : ∃ v ∈ x.waiters, v.who = answered a := by
  have : answered a ∈ x.waiters.map Waiter.who :=
    he.who.subset (List.mem_append_left _ (List.mem_map_of_mem ha))
  exact List.mem_map.1 this

/-! ### The length of the responses -/

theorem data_cascadeUpTo (n : Nat) (b : Pool) : ∀ a ∈ (Pool.cascadeUpTo n b).2, a.2.data.length ≤ 9 := by
  induction n generalizing b with
  | zero => intro a ha; cases ha
  | succ n ih =>
    cases hb : b.waiters with
    | nil => rw [cascadeUpTo_blocked (by simp [hb])]; intro a ha; cases ha
    | cons w rest =>
      by_cases hu : w.units ≤ b.level
      · rw [cascadeUpTo_grant hb hu]
        intro a ha
        rcases List.mem_cons.1 ha with rfl | ha
        · simp [grantResponse]
        · exact ih _ a ha
      · rw [cascadeUpTo_blocked (by simp [hb]; omega)]; intro a ha; cases ha

theorem data_mergeResponses (q : Waiter → Bool) (r : ResultCode) (ws : List Waiter) (grants : List (Port × Response))
    (h : ∀ a ∈ grants, a.2.data.length ≤ 9) : ∀ a ∈ mergeResponses q (some r) ws grants, a.2.data.length ≤ 9 := by
  induction ws generalizing grants with
  | nil => exact h
  | cons w ws ih =>
    unfold mergeResponses
    intro a ha
    split at ha
    · rcases List.mem_cons.1 ha with rfl | ha
      · simp
      · exact ih grants h a ha
    · cases grants with
      | nil => exact ih [] h a ha
      | cons g gs =>
        rcases List.mem_cons.1 ha with rfl | ha
        · exact h _ (by simp)
        · exact ih gs (fun x hx => h x (by simp [hx])) a ha

theorem PoolEvent.data {free : Nat} {taker : Option Port} {b b1 : Pool} {rs : List (Port × Response)}
    (he : PoolEvent free taker b b1 rs) : ∀ a ∈ rs, a.2.data.length ≤ 9 := by
  cases he with
  | same => simp
  | limits => simp
  | take => simp
  | release => exact data_cascadeUpTo _ _
  | raise => exact data_cascadeUpTo _ _
  | lower => exact data_mergeResponses _ _ _ _ (data_cascadeUpTo _ _)
  | grant => simp [grantResponse]
  | ended q result =>
    refine data_mergeResponses _ _ _ _ ?_
    unfold Pool.endAndCascade
    split
    · exact data_cascadeUpTo _ _
    · simp

theorem BodyEvent.data {free : Nat} {taker : Option Port} {x y : Body} {rs : List (Port × Response)}
    (he : BodyEvent free taker x y rs) : ∀ a ∈ rs, a.2.data.length ≤ 9 := by
  cases he with
  | pool hp => exact hp.data
  | _ => simp

/-! ### The ports with an entry -/

theorem lists_cascadeUpTo {n : Nat} {b : Pool} {q : Port} (h : (Pool.cascadeUpTo n b).1.lists q = true) :
    b.lists q = true ∨ ∃ w ∈ b.waiters, w.port = q := by
  induction n generalizing b with
  | zero => exact .inl h
  | succ n ih =>
    cases hb : b.waiters with
    | nil => rw [cascadeUpTo_blocked (by simp [hb])] at h; exact .inl h
    | cons w rest =>
      by_cases hu : w.units ≤ b.level
      · rw [cascadeUpTo_grant hb hu] at h
        rcases ih h with h | ⟨v, hv, hq⟩
        · rw [lists_grantHead, Bool.or_eq_true, beq_iff_eq] at h
          exact h.imp_right fun hp => ⟨w, by simp, hp⟩
        · have : v.who ∈ rest.map Waiter.who := by
            rw [← who_of_core (core_grantHead w rest b)]; exact List.mem_map_of_mem hv
          obtain ⟨x, hx, hxv⟩ := List.mem_map.1 this
          exact .inr ⟨x, by simp [hx], (congrArg Prod.fst hxv).trans hq⟩
      · rw [cascadeUpTo_blocked (by simp [hb]; omega)] at h; exact .inl h

/-- A port that has an entry after a cascade had one, or had a waiter. -/
theorem lists_cascade {b : Pool} {q : Port} (h : b.cascade.1.lists q = true) :
    b.lists q = true ∨ ∃ w ∈ b.waiters, w.port = q := lists_cascadeUpTo h

/-- A port that has an entry after units are given back had one. -/
theorem lists_giveBack {b : Pool} {p q : Port} {n : Nat} (h : (b.giveBack p n).lists q = true) : b.lists q = true := by
  rw [lists_iff] at h ⊢
  rcases Nat.lt_or_ge n (b.unitsOf p) with hn | hn
  · rwa [Pool.ports_giveBack_part hn] at h
  · rw [(Pool.giveBack_whole hn).1] at h
    exact (List.filter_sublist.map _).subset h

/-- A port has a waiter in a queue when it has one in the queue without reservation marks. -/
theorem exists_waiter_of_who {ws vs : List Waiter} {q : Port} (h : ∀ x ∈ ws.map Waiter.who, x ∈ vs.map Waiter.who)
    (hw : ∃ w ∈ ws, w.port = q) : ∃ v ∈ vs, v.port = q := by
  obtain ⟨w, hw, hq⟩ := hw
  obtain ⟨v, hv, he⟩ := List.mem_map.1 (h _ (List.mem_map_of_mem hw))
  exact ⟨v, hv, (congrArg Prod.fst he).trans hq⟩

theorem exists_waiter_endWaiters {b : Pool} {f : Waiter → Bool} {q : Port}
    (hw : ∃ w ∈ (b.endWaiters f).waiters, w.port = q) : ∃ v ∈ b.waiters, v.port = q := by
  refine exists_waiter_of_who (fun x hx => ?_) hw
  rw [who_endWaiters] at hx
  exact (List.filter_sublist.map _).subset hx

theorem PoolEvent.lists {free : Nat} {taker : Option Port} {b b1 : Pool} {rs : List (Port × Response)}
    (he : PoolEvent free taker b b1 rs) {q : Port} (h : b1.lists q = true) :
    b.lists q = true ∨ (∃ w ∈ b.waiters, w.port = q) ∨ taker = some q := by
  cases he with
  | same => exact .inl h
  | limits => exact .inl h
  | take hp =>
    subst hp
    have h' := (lists_addUnits _ q _ b).symm.trans h
    simp only [Bool.or_eq_true, beq_iff_eq] at h'
    rcases h' with h' | rfl
    · exact .inl h'
    · exact .inr (.inr rfl)
  | release hp =>
    rcases lists_cascade h with h | h
    · exact .inl (lists_giveBack h)
    · exact .inr (.inl (exists_waiter_of_who (by simp [who_of_core (Pool.core_giveBack _ _ b)]) h))
  | raise => exact (lists_cascade h).imp_right .inl
  | lower =>
    rcases lists_cascade h with h | h
    · exact .inl h
    · exact .inr (.inl (exists_waiter_endWaiters h))
  | grant hw hl =>
    rw [lists_grantHead, Bool.or_eq_true, beq_iff_eq] at h
    exact h.imp_right fun hp => .inl ⟨_, by rw [hw]; exact List.mem_cons_self, hp⟩
  | ended f result =>
    unfold Pool.endAndCascade at h
    split at h
    · rcases lists_cascade h with h | h
      · exact .inl h
      · exact .inr (.inl (exists_waiter_endWaiters h))
    · exact .inl h

end Sys2Proof.Machine
end

section
/-! How a record comes to stand in a slot at an event, and the laws of single records that follow: legal bodies, LIVE and CLOSING,
blocked heads, distinct keys (O50, O51, O52). -/

namespace Sys2Proof.Machine

/-! ### The entry into DRAINING, slot by slot -/

/-- What the entry of port `p` into DRAINING makes of a slot's body (R82). -/
def SlotState.leftBy (p : Port) (x : SlotState) : SlotState :=
  { x with record := x.record.map fun r => { r with body := (r.body.leftBy p).1 } }

theorem Body.leftBy_waiting {b : Pool} {p : Port} (h : b.waiters.any (ofPort p) = true) :
    (Body.pool b).leftBy p = (.pool (b.endWaiters (ofPort p)).cascade.1, (b.endWaiters (ofPort p)).cascade.2) := if_pos h

theorem Body.leftBy_idle {b : Pool} {p : Port} (h : b.waiters.any (ofPort p) = false) :
    (Body.pool b).leftBy p = (.pool b, []) := if_neg (Bool.eq_false_iff.1 h)

/-- The entry of a port into DRAINING leaves a body as it is, or ends the port's waiters on a POOL. -/
theorem Body.leftBy_cases (p : Port) (body : Body) :
    body.leftBy p = (body, []) ∨ ∃ b, body = .pool b ∧ b.waiters.any (ofPort p) = true ∧
      body.leftBy p = (.pool (b.endWaiters (ofPort p)).cascade.1, (b.endWaiters (ofPort p)).cascade.2) := by
  cases body with
  | pool b =>
    cases h : b.waiters.any (ofPort p) with
    | true => exact .inr ⟨b, rfl, h, Body.leftBy_waiting h⟩
    | false => exact .inl (Body.leftBy_idle h)
  | _ => exact .inl rfl

/-- A cascade takes no entry off the holding list. -/
theorem cascade_holdings_ne_nil {b : Pool} (h : b.holdings ≠ []) : b.cascade.1.holdings ≠ [] :=
  cascade_induction (P := fun c => c.holdings ≠ []) (fun c w rest hc _ _ hn => by
    have h1 := (ports_grantHead w rest c).length_le
    rw [hn, List.map_nil, List.length_nil, Nat.le_zero, List.length_map] at h1
    exact hc (List.length_eq_zero_iff.1 h1)) b h

/-- The end of a port's waiters removes no commitment. -/
theorem drains_leftBy {rec : Record} {b : Pool} (hb : rec.body = .pool b) (q : Waiter → Bool) :
    drains rec { rec with body := .pool (b.endWaiters q).cascade.1 } = false := by
  by_cases h : b.holdings = []
  · simp [drains, Record.committed, Body.committed, hb, h]
  · have := cascade_holdings_ne_nil (b := b.endWaiters q) h
    simp [drains, Record.committed, Body.committed, this]

theorem SlotState.leftBy_of_not_any {p : Port} {x : SlotState}
    (h : ∀ (rec : Record) (b : Pool), x.record = some rec → rec.body = .pool b → b.waiters.any (ofPort p) = false) :
    x.leftBy p = x := by
  obtain ⟨g, _ | rec⟩ := x
  · rfl
  · have hb : (rec.body.leftBy p).1 = rec.body := by
      rcases Body.leftBy_cases p rec.body with he | ⟨b, hb, hw, -⟩
      · rw [he]
      · rw [h rec b rfl hb] at hw; cases hw
    simp only [SlotState.leftBy, Option.map_some, hb]

theorem State.slot_dropWaitersAt (p : Port) (s : State) (i j : Slot) :
    (s.dropWaitersAt p i).slot j = if i = j then (s.slot i).leftBy p else s.slot j := by
  rcases hr : (s.slot i).record with _ | rec
  · have h1 : s.dropWaitersAt p i = s := by unfold State.dropWaitersAt; rw [hr]
    rw [h1, SlotState.leftBy_of_not_any (by simp [hr])]
    split <;> simp [*]
  · by_cases hw : ∃ b, rec.body = .pool b ∧ b.waiters.any (ofPort p) = true
    · obtain ⟨b, hb, hw⟩ := hw
      have h1 : s.dropWaitersAt p i = s.finishEvent i rec { rec with body := .pool (b.endWaiters (ofPort p)).cascade.1 }
          (b.endWaiters (ofPort p)).cascade.2 := by
        unfold State.dropWaitersAt
        simp only [hr, hb, hw, if_true, mergeResponses_none]
      have h2 : (rec.body.leftBy p).1 = .pool (b.endWaiters (ofPort p)).cascade.1 := by
        rw [hb, Body.leftBy_waiting hw]
      rw [h1, State.slot_finishEvent, drains_leftBy hb]
      simp [SlotState.leftBy, hr, h2]
    · have h1 : s.dropWaitersAt p i = s := by
        rcases State.dropWaitersAt_cases p s i with h | ⟨rec', b, hs, hb, hw', -⟩
        · exact h
        · rw [hr] at hs
          obtain rfl := Option.some.inj hs
          exact absurd ⟨b, hb, hw'⟩ hw
      rw [h1, SlotState.leftBy_of_not_any]
      · split <;> simp [*]
      · intro rec' b hs hb
        rw [hr] at hs
        obtain rfl := Option.some.inj hs
        exact Bool.eq_false_iff.2 fun h => hw ⟨b, hb, h⟩

theorem State.slot_foldl_dropWaitersAt (p : Port) (l : List Slot) (hl : l.Nodup) (s : State) (j : Slot) :
    (l.foldl (State.dropWaitersAt p) s).slot j = if j ∈ l then (s.slot j).leftBy p else s.slot j := by
  induction l generalizing s with
  | nil => rfl
  | cons i l ih =>
    obtain ⟨hi, hl⟩ := List.nodup_cons.1 hl
    rw [List.foldl_cons, ih hl, State.slot_dropWaitersAt]
    by_cases hij : i = j
    · subst hij; simp [hi]
    · simp [hij, show j ≠ i from fun h => hij h.symm]

theorem State.slot_dropWaiters (p : Port) (s : State) (j : Slot) : (s.dropWaiters p).slot j = (s.slot j).leftBy p := by
  rw [State.dropWaiters, State.slot_foldl_dropWaitersAt p allSlots (List.nodup_finRange 256), if_pos (show j ∈ allSlots from List.mem_finRange j)]

theorem State.slot_enterDraining (p : Port) (s : State) (j : Slot) :
    (s.enterDraining p).slot j = ((s.slot j).leftBy p).forget p := by
  have h : (s.enterDraining p).slot j = (((s.modifyPort p (PortState.cleared .draining)).dropWaiters p).slot j).forget p := by
    simp [State.enterDraining, State.slot]
  rw [h, State.slot_dropWaiters]
  rfl

/-! ### The walk step, as an event on a body -/

/-- The units that a walk step takes back, and the claims, are an event on the body. -/
theorem bodyEvent_reclaim (free : Nat) (taker : Option Port) (p : Port) (b : Body) :
    BodyEvent free taker b (b.reclaim p).1 (b.reclaim p).2 := by
  unfold Body.reclaim
  split
  next b =>
    split
    next h => exact .pool (.release h (Nat.le_refl _))
    · exact .pool .same
  next b =>
    refine .flags (FlagSet.legal_reclaim p) fun n q hq => .inl ?_
    rw [FlagSet.claimants_reclaim] at hq
    split at hq
    · cases hq
    · exact hq
  · exact .counter id
  · exact .sequence id

/-! ### How a record comes to stand -/

/-- How the record `r` comes to stand in slot `j` at an event in the state `s`. -/
inductive RecordMove (s : State) (j : Slot) : Record → Prop
  | kept {r0 r : Record} (hs : (s.slot j).record = some r0) (hk : r.key = r0.key) (hst : r.state = r0.state)
      (hh : r.held = r0.held) (hb : r.body = r0.body) : RecordMove s j r
  | created {q : Request} {p : Port} {body : Body} (hr : s.condition = .ready) (hb : createBody q = some body)
      (hk : s.slotOfKey (q.word 1) = none) (he : s.lowestEmpty = some j) : RecordMove s j (newRecord (q.word 1) p body)
  | changed {r0 r : Record} {free : Nat} {taker : Option Port} {rs : List (Port × Response)}
      (hs : (s.slot j).record = some r0) (hb : BodyEvent free taker r0.body r.body rs) (hk : r.key = r0.key)
      (hst : r.state = r0.state) (hh : r.held = r0.held) (hd : drains r0 r = false) : RecordMove s j r
  | queued {r0 : Record} {b : Pool} {n timeout : Nat} {p : Port} {q : Request} (hs : (s.slot j).record = some r0)
      (hb : r0.body = .pool b) (hl : r0.state = .live) (hn : 1 ≤ n) (hst : n ≤ b.stock) (ht : timeout ≤ 4095)
      (hblocked : b.waiters = [] → b.level < n) :
      RecordMove s j { r0 with body := .pool { b with waiters := b.waiters ++ [newWaiter b n timeout p q] } }
  | held {r0 : Record} {p : Port} {g : Tag} (hs : (s.slot j).record = some r0) (hl : r0.state = .live)
      (hc : r0.committed = true) :
      RecordMove s j { r0 with state := .closing, held := .pending p g, body := r0.body.withoutWaiters }
  | counted {r0 : Record} (hs : (s.slot j).record = some r0) : RecordMove s j { r0 with body := r0.body.countDown }
  | left {r0 : Record} {p : Port} (hs : (s.slot j).record = some r0) :
      RecordMove s j (Record.forget p { r0 with body := (r0.body.leftBy p).1 })

theorem RecordMove.stay {s : State} {j : Slot} {r : Record} (hs : (s.slot j).record = some r) : RecordMove s j r :=
  .kept hs rfl rfl rfl rfl

/-- At the end of an event on slot `i` a record stands in slot `j` as it did, or is the event's. -/
theorem RecordMove.finishEvent {s u : State} {i j : Slot} {r0 r1 r : Record} {rs : List (Port × Response)}
    (hu : ∀ j, u.slot j = s.slot j) (hr : ((u.finishEvent i r0 r1 rs).slot j).record = some r)
    (h1 : drains r0 r1 = false → RecordMove s i r1) : RecordMove s j r := by
  rcases State.record_finishEvent hr with ⟨rfl, rfl, hd⟩ | ⟨-, h⟩
  · exact h1 hd
  · exact .stay (hu j ▸ h)

theorem RecordMove.emptySlot {s u : State} {i j : Slot} {r0 r1 r : Record} {c : ResultCode}
    (hu : ∀ j, u.slot j = s.slot j) (hr : ((u.emptySlot i r0 r1 c).slot j).record = some r) : RecordMove s j r := by
  rw [State.slot_emptySlot] at hr
  split at hr
  · cases hr
  · exact .stay (hu j ▸ hr)

theorem RecordMove.writeRecord {s u : State} {i j : Slot} {r1 r : Record} (hu : ∀ j, u.slot j = s.slot j)
    (hr : ((u.writeRecord i r1).slot j).record = some r) (h1 : RecordMove s i r1) : RecordMove s j r := by
  rw [State.slot_writeRecord] at hr
  split at hr
  next hij =>
    subst hij
    exact Option.some.inj hr ▸ h1
  · exact .stay (hu j ▸ hr)

theorem RequestEffect.recordMove {c : ReqCode} {p : Port} {r : Request} {s u t : State} (h : RequestEffect c p r u t)
    (hu : ∀ j, u.slot j = s.slot j) (hc : s.condition = .ready) {j : Slot} {x : Record}
    (hx : (t.slot j).record = some x) : RecordMove s j x := by
  cases h with
  | reply => exact .stay (hu j ▸ by simpa using hx)
  | exhausted => exact .stay (hu j ▸ by simpa using hx)
  | body result _ hs hb _ => exact .finishEvent hu hx fun hd => .changed (hu _ ▸ hs) hb rfl rfl rfl hd
  | queue hs hb hl hn hst ht hblocked _ _ => exact .finishEvent hu hx fun _ => .queued (hu _ ▸ hs) hb hl hn hst ht hblocked
  | hold hs hl hc => exact .finishEvent hu hx fun _ => .held (hu _ ▸ hs) hl hc
  | retire hs hl => exact .emptySlot hu (by simpa using hx)
  | own hs =>
    rw [State.reply_slot] at hx
    have hs' := hu _ ▸ hs
    exact .writeRecord hu hx (.kept hs' rfl rfl rfl rfl)
  | watch mode hs =>
    rw [State.reply_slot] at hx
    have hs' := hu _ ▸ hs
    exact .writeRecord hu hx (.kept hs' rfl rfl rfl rfl)
  | assign line hs =>
    rw [State.reply_slot] at hx
    have hs' := hu _ ▸ hs
    exact .writeRecord (fun j => by simpa using hu j) hx (.kept hs' rfl rfl rfl rfl)
  | create _ hb hk he =>
    have hslot : u.slot = s.slot := funext hu
    refine .writeRecord hu (by simpa using hx) (.created hc hb ?_ ?_)
    · simpa [State.slotOfKey, hslot] using hk
    · simpa [State.lowestEmpty, hslot] using he
  | notice =>
    rw [State.reply_slot] at hx
    exact .stay (hu j ▸ hx)

theorem Event.recordMove {s t : State} (h : Event s t) {j : Slot} {x : Record} (hx : (t.slot j).record = some x) :
    RecordMove s j x := by
  cases h with
  | device h =>
    obtain ⟨-, hslots, -⟩ := h
    exact .stay (by simpa [State.slot, hslots] using hx)
  | deviceReset a => simp [State.deviceReset, State.reset, State.slot, SlotState.reset] at hx
  | act hr h =>
    cases h with
    | endSelfCheck h =>
      have : s.endSelfCheck.slots = Vector.replicate 256 SlotState.reset := by unfold State.endSelfCheck; split <;> rfl
      simp [State.slot, this, SlotState.reset] at hx
    | request h he => exact he.recordMove (s := s) (fun _ => rfl) (State.inService_of_turn h.1).1.2 hx
    | body hs hb => exact .finishEvent (fun _ => rfl) hx fun hd => .changed hs hb rfl rfl rfl hd
    | empty result hs => exact .emptySlot (fun _ => rfl) hx
    | countDown =>
      have hj : (({ s with slots := s.slots.map SlotState.countDown } : State).slot j) = (s.slot j).countDown := by
        simp [State.slot]
      rw [hj, SlotState.countDown, Option.map_eq_some_iff] at hx
      obtain ⟨r0, hs, rfl⟩ := hx
      exact .counted hs
    | enterDraining h =>
      rw [State.slot_enterDraining, SlotState.forget, SlotState.leftBy, Option.map_map, Option.map_eq_some_iff] at hx
      obtain ⟨r0, hs, rfl⟩ := hx
      exact .left hs
    | walk h =>
      rw [State.slot_advanceCursor] at hx
      unfold State.reclaimSlot at hx
      split at hx
      · exact .stay hx
      next r0 hs =>
        exact .finishEvent (fun _ => rfl) hx fun hd => .changed hs (bodyEvent_reclaim 0 none _ _) rfl rfl rfl hd
    | _ => exact .stay (by simpa using hx)

/-- A law of single records that every move keeps, every step keeps. -/
theorem everyRecord_step {P : Record → Prop}
    (hm : ∀ (s : State) (j : Slot) (r : Record), s.everyRecord P → RecordMove s j r → P r) {s t : State}
    (hs : s.everyRecord P) (h : step s = .next t) : t.everyRecord P :=
  step_keeps (P := State.everyRecord P) (fun s _ hs he j r hr => hm s j r hs (he.recordMove hr)) hs h

/-! ### Legal bodies -/

theorem legal_createBody {q : Request} {body : Body} (h : createBody q = some body) : body.legal := by
  unfold createBody at h
  split at h
  · cases h
  · unfold createPool at h
    split at h
    next he =>
      obtain rfl := Option.some.inj h
      have := word_toNat_le (q.word 2)
      refine ⟨?_, this, Nat.zero_le _, List.nodup_nil, by simp, by simp⟩
      simp [Pool.heldUnits, he]
    · cases h
  · unfold createCounter at h
    split at h
    · cases h
    · dsimp only at h
      split at h
      next hv =>
        obtain rfl := Option.some.inj h
        have h1 := toInt_bounds (q.word 3)
        have h2 := toInt_bounds (q.word 4)
        exact ⟨hv.1, hv.2, h1.1, h2.2, h1.1, hv.1.trans hv.2, h2.2⟩
      · cases h
  · obtain rfl := Option.some.inj h
    intro n hn
    simp at hn
  · unfold createSequence at h
    dsimp only at h
    split at h
    next hv =>
      obtain rfl := Option.some.inj h
      exact ⟨hv.1, hv.2.1, hv.2.2, word_toNat_le _, word_toNat_le _⟩
    · cases h

/-- A body at a unit boundary is legal as it was: a timeout that falls is still within its bound. -/
theorem legal_countDown {b : Body} (h : b.legal) : b.countDown.legal := by
  cases b with
  | pool b =>
    obtain ⟨h1, h2, h3, h4, h5, h6⟩ := h
    refine ⟨h1, h2, h3, h4, h5, fun w hw => ?_⟩
    obtain ⟨v, hv, rfl⟩ := List.mem_map.1 hw
    obtain ⟨hv1, hv2, hv3⟩ := h6 v hv
    refine ⟨hv1, hv2, fun t ht => ?_⟩
    obtain ⟨u, hu, rfl⟩ := Option.map_eq_some_iff.1 ht
    exact (Nat.sub_le _ _).trans (hv3 u hu)
  | _ => exact h

theorem legal_leftBy {b : Body} (p : Port) (h : b.legal) : (b.leftBy p).1.legal := by
  rcases Body.leftBy_cases p b with he | ⟨b, rfl, -, he⟩
  · rw [he]; exact h
  · rw [he]; exact Pool.legal_cascade (Pool.legal_endWaiters _ h)

theorem legal_withoutWaiters {b : Body} (h : b.legal) : b.withoutWaiters.legal := by
  cases b with
  | pool b =>
    obtain ⟨h1, h2, h3, h4, h5, h6⟩ := h
    exact ⟨h1, h2, h3, h4, h5, by simp⟩
  | _ => exact h

theorem RecordMove.legal {s : State} {j : Slot} {r : Record} (h : RecordMove s j r) (hs : s.bodiesLegal) :
    r.body.legal := by
  cases h with
  | kept h0 _ _ _ hb => exact hb ▸ hs j _ h0
  | created _ hb => exact legal_createBody hb
  | changed h0 hb => exact hb.legal (hs j _ h0)
  | @queued r0 b n timeout p q h0 hb _ hn hst ht _ =>
    have h : (Body.pool b).legal := by rw [← hb]; exact hs j _ h0
    obtain ⟨h1, h2, h3, h4, h5, h6⟩ := h
    refine ⟨h1, h2, h3, h4, h5, fun w hw => ?_⟩
    rcases List.mem_append.1 hw with hw | hw
    · exact h6 w hw
    · rw [List.mem_singleton.1 hw]
      refine ⟨hn, hst, fun t htt => ?_⟩
      simp only [newWaiter] at htt
      split at htt
      · cases htt
      · obtain rfl := Option.some.inj htt; exact ht
  | held h0 _ _ => exact legal_withoutWaiters (hs j _ h0)
  | counted h0 => exact legal_countDown (hs j _ h0)
  | left h0 => exact legal_leftBy _ (hs j _ h0)

/-! ### Blocked heads -/

theorem headBlocked_of_waiters_nil {b : Body} (h : b.waiters = []) : b.headBlocked := by
  cases b with
  | pool b => intro w hw; rw [show b.waiters = [] from h] at hw; cases hw
  | _ => trivial

theorem waiters_createBody {q : Request} {body : Body} (h : createBody q = some body) : body.waiters = [] := by
  unfold createBody at h
  split at h
  · cases h
  · unfold createPool at h
    split at h
    · obtain rfl := Option.some.inj h; rfl
    · cases h
  · unfold createCounter at h
    split at h
    · cases h
    · dsimp only at h
      split at h
      · obtain rfl := Option.some.inj h; rfl
      · cases h
  · obtain rfl := Option.some.inj h; rfl
  · unfold createSequence at h
    dsimp only at h
    split at h
    · obtain rfl := Option.some.inj h; rfl
    · cases h

@[simp] theorem waiters_withoutWaiters (b : Body) : b.withoutWaiters.waiters = [] := by cases b <;> rfl

theorem headBlocked_countDown {b : Body} (h : b.headBlocked) : b.countDown.headBlocked := by
  cases b with
  | pool b =>
    intro w hw
    simp only [List.head?_map, Option.map_eq_some_iff] at hw
    obtain ⟨v, hv, rfl⟩ := hw
    exact h v hv
  | _ => trivial

theorem headBlocked_leftBy {b : Body} (p : Port) (h : b.headBlocked) : (b.leftBy p).1.headBlocked := by
  rcases Body.leftBy_cases p b with he | ⟨b, rfl, -, he⟩
  · rw [he]; exact h
  · rw [he]; exact headBlocked_cascade _

theorem RecordMove.headBlocked {s : State} {j : Slot} {r : Record} (h : RecordMove s j r) (hs : s.headsBlocked) :
    r.body.headBlocked := by
  cases h with
  | kept h0 _ _ _ hb => exact hb ▸ hs j _ h0
  | created _ hb => exact headBlocked_of_waiters_nil (waiters_createBody hb)
  | changed h0 hb => exact hb.headBlocked (hs j _ h0)
  | @queued r0 b n timeout p q h0 hb _ _ _ _ hblocked =>
    have hhead : (Body.pool b).headBlocked := by rw [← hb]; exact hs j _ h0
    intro w hw
    cases hws : b.waiters with
    | nil =>
      simp only [hws, List.nil_append, List.head?_cons, Option.some.injEq] at hw
      exact hw ▸ hblocked hws
    | cons v vs =>
      simp only [hws, List.cons_append, List.head?_cons, Option.some.injEq] at hw
      exact hhead w (by rw [hws, ← hw]; rfl)
  | held h0 _ _ => exact headBlocked_of_waiters_nil (waiters_withoutWaiters _)
  | counted h0 => exact headBlocked_countDown (hs j _ h0)
  | left h0 => exact headBlocked_leftBy _ (hs j _ h0)

/-! ### LIVE and CLOSING -/

theorem committed_withoutWaiters (b : Body) : b.withoutWaiters.committed = b.committed := by cases b <;> rfl

/-- The entry of a port into DRAINING lets a body with a commitment keep one. -/
theorem committed_leftBy {b : Body} (p : Port) (h : b.committed = true) : (b.leftBy p).1.committed = true := by
  rcases Body.leftBy_cases p b with he | ⟨b, rfl, -, he⟩
  · rw [he]; exact h
  · rw [he]
    have hn : b.holdings ≠ [] := by simpa [Body.committed] using h
    simpa [Body.committed] using cascade_holdings_ne_nil (b := b.endWaiters (ofPort p)) hn

theorem leftBy_of_waiters_nil {b : Body} (p : Port) (h : b.waiters = []) : b.leftBy p = (b, []) := by
  rcases Body.leftBy_cases p b with he | ⟨b, rfl, hw, -⟩
  · exact he
  · rw [show b.waiters = [] from h] at hw; cases hw

theorem RecordMove.lifecycle {s : State} {j : Slot} {r : Record} (h : RecordMove s j r) (hs : s.lifecycles) :
    r.lifecycle := by
  cases h with
  | kept h0 _ hst hh hb =>
    have := hs j _ h0
    rwa [Record.lifecycle, Record.committed, hst, hh, hb]
  | created _ hb => exact ⟨⟨fun _ => rfl, fun _ => rfl⟩, fun h => by cases h⟩
  | changed h0 hb _ hst hh hd =>
    obtain ⟨h1, h2⟩ := hs j _ h0
    refine ⟨by rw [hst, hh]; exact h1, fun hc => ?_⟩
    obtain ⟨hcom, hw⟩ := h2 (hst ▸ hc)
    refine ⟨?_, hb.waiters_nil hw⟩
    simpa [drains, hc, hcom] using hd
  | queued h0 _ hl _ _ _ _ =>
    exact ⟨(hs j _ h0).1, fun hc => by rw [show _ = RecordState.live from hl] at hc; cases hc⟩
  | held h0 _ hc =>
    exact ⟨⟨nofun, nofun⟩, fun _ =>
      ⟨(committed_withoutWaiters _).trans hc, waiters_withoutWaiters _⟩⟩
  | counted h0 =>
    obtain ⟨h1, h2⟩ := hs j _ h0
    refine ⟨h1, fun hc => ?_⟩
    obtain ⟨hcom, hw⟩ := h2 hc
    rename_i r0
    have hb : r0.body.countDown = r0.body := by
      cases hb : r0.body with
      | pool b =>
        obtain ⟨stock, level, lowMark, holdings, waiters⟩ := b
        rw [hb] at hw
        obtain rfl : waiters = [] := hw
        rfl
      | _ => rfl
    rw [Record.committed, hb]
    exact ⟨hcom, hw⟩
  | left h0 =>
    obtain ⟨h1, h2⟩ := hs j _ h0
    rename_i r0 p
    refine ⟨?_, fun hc => ?_⟩
    · refine h1.trans ?_
      simp only [Record.forget]
      cases r0.held with
      | pending q g => simp only [HeldRetire.discardOf]; split <;> simp
      | _ => simp [HeldRetire.discardOf]
    · obtain ⟨hcom, hw⟩ := h2 hc
      simp only [Record.forget, leftBy_of_waiters_nil p hw]
      exact ⟨hcom, hw⟩

/-! ### Distinct keys -/

/-- A record of the part stands with the key of the one it comes from, or is new with a key that no record has. -/
theorem RecordMove.key {s : State} {j : Slot} {r : Record} (h : RecordMove s j r) :
    (∃ r0, (s.slot j).record = some r0 ∧ r.key = r0.key) ∨ (s.slotOfKey r.key = none ∧ s.lowestEmpty = some j) := by
  cases h with
  | kept h0 hk => exact .inl ⟨_, h0, hk⟩
  | created _ _ hk he => exact .inr ⟨hk, he⟩
  | changed h0 _ hk => exact .inl ⟨_, h0, hk⟩
  | queued h0 => exact .inl ⟨_, h0, rfl⟩
  | held h0 => exact .inl ⟨_, h0, rfl⟩
  | counted h0 => exact .inl ⟨_, h0, rfl⟩
  | left h0 => exact .inl ⟨_, h0, rfl⟩

theorem State.slotOfKey_none {s : State} {key : Word} (h : s.slotOfKey key = none) {j : Slot} {r : Record}
    (hr : (s.slot j).record = some r) : r.key ≠ key := by
  have := List.find?_eq_none.1 h j (List.mem_finRange j)
  simpa [hr] using this

theorem keysDistinct_event {s t : State} (hs : s.keysDistinct) (he : Event s t) : t.keysDistinct := by
  intro i j a b ha hb hk
  rcases (he.recordMove ha).key with ⟨a0, ha0, hka⟩ | ⟨hna, hea⟩ <;>
    rcases (he.recordMove hb).key with ⟨b0, hb0, hkb⟩ | ⟨hnb, heb⟩
  · exact hs i j a0 b0 ha0 hb0 (hka ▸ hkb ▸ hk)
  · exact absurd (hka ▸ hk) (State.slotOfKey_none hnb ha0)
  · exact absurd (hkb ▸ hk.symm) (State.slotOfKey_none hna hb0)
  · exact Option.some.inj (hea.symm.trans heb)

end Sys2Proof.Machine

namespace Sys2Proof.Proofs

open Sys2Proof.Machine

/-- Settles O50: a record that stands after a step has its body from one that stood, by an event that keeps it legal, or is
new. -/
theorem bodiesStayLegal : Obligations.BodiesStayLegal := by
  intro s t hs h
  exact everyRecord_step (fun s j r hs hm => hm.legal hs) hs h

/-- Settles O51: LIVE and CLOSING record by record, since the end of an event empties a CLOSING record without commitments; keys,
since a CREATE takes a key that no record has. -/
theorem lifecyclesAndKeysKept : Obligations.LifecyclesAndKeysKept :=
  ⟨fun _ _ hs h => everyRecord_step (fun _ _ _ hs hm => hm.lifecycle hs) hs h,
    fun _ _ hs h => step_keeps (fun _ _ => keysDistinct_event) hs h⟩

/-- Settles O52: every event that could leave a head servable runs the cascade, which stops at a head it cannot serve. -/
theorem headsStayBlocked : Obligations.HeadsStayBlocked := by
  intro s t hs h
  exact everyRecord_step (fun s j r hs hm => hm.headBlocked hs) hs h

end Sys2Proof.Proofs
end

section
/-! What the end of an event does to the response queues, the changed sets and the line counts (O16, O17, O18), and the laws of
changed sets and line counts (O54, O55). -/

namespace Sys2Proof.Machine

/-! ### Responses -/

@[simp] theorem responsesFor_nil (p : Port) : responsesFor p [] = [] := rfl

theorem responsesFor_cons (p : Port) (a : Port × Response) (rs : List (Port × Response)) :
    responsesFor p (a :: rs) = (if a.1 = p then [a.2] else []) ++ responsesFor p rs := by
  unfold responsesFor
  by_cases h : a.1 = p <;> simp [h]

theorem responsesFor_append (p : Port) (as bs : List (Port × Response)) :
    responsesFor p (as ++ bs) = responsesFor p as ++ responsesFor p bs := by simp [responsesFor]

/-- A port's queue after responses are placed (R12, R143). -/
theorem State.port_placeAll (p : Port) (rs : List (Port × Response)) (s : State) :
    (s.placeAll rs).port p = if (s.port p).mode = .draining then s.port p
      else { s.port p with responses := (s.port p).responses ++ responsesFor p rs } := by
  induction rs generalizing s with
  | nil => simp
  | cons a rs ih =>
    obtain ⟨q, r⟩ := a
    rw [State.placeAll_cons, ih, State.mode_place, State.port_place, responsesFor_cons]
    by_cases hd : (s.port p).mode = .draining
    · by_cases hq : q = p
      · subst hq; simp [hd]
      · simp [hd, hq]
    · by_cases hq : q = p
      · subst hq; simp [hd]
      · simp [hd, hq]

/-- Placing responses changes the ports alone. -/
theorem State.placeAll_eq (rs : List (Port × Response)) (s : State) :
    s.placeAll rs = { s with ports := (s.placeAll rs).ports } := by
  induction rs generalizing s with
  | nil => rfl
  | cons a rs ih =>
    obtain ⟨q, r⟩ := a
    have h : s.place q r = { s with ports := (s.place q r).ports } := by unfold State.place; split <;> rfl
    rw [State.placeAll_cons, ih]
    exact congrArg (fun u : State => { u with ports := ((s.place q r).placeAll rs).ports }) h

/-! ### The fields of an event's end -/

@[simp] theorem State.slot_gen_writeRecord (i : Slot) (r : Record) (s : State) :
    ((s.writeRecord i r).slot i).gen = (s.slot i).gen := by simp [State.slot_writeRecord]

theorem State.changed_updateRecord (i : Slot) (r0 r1 : Record) (s : State) :
    (s.updateRecord i r0 r1).changed = if (changeReasons r0 r1).body
      then (s.notify r1.watch ⟨i, (s.slot i).gen, changeReasons r0 r1⟩).changed else s.changed := by
  unfold State.updateRecord
  dsimp only
  split <;> simp [State.notify]

theorem State.changed_emptySlot (i : Slot) (r0 r1 : Record) (c : ResultCode) (s : State) :
    (s.emptySlot i r0 r1 c).changed = (s.notify r1.watch ⟨i, (s.slot i).gen, endReasons r0 r1⟩).changed := by
  simp [State.emptySlot, State.notify]

theorem State.freeHoldings_updateRecord (i : Slot) (r0 r1 : Record) (s : State) :
    (s.updateRecord i r0 r1).freeHoldings = (s.writeRecord i r1).freeHoldings := by
  unfold State.updateRecord
  dsimp only
  split <;> simp

theorem State.freeWaiters_updateRecord (i : Slot) (r0 r1 : Record) (s : State) :
    (s.updateRecord i r0 r1).freeWaiters = (s.writeRecord i r1).freeWaiters := by
  unfold State.updateRecord
  dsimp only
  split <;> simp

/-- The free entries after a record is written: those of the old one come back, those of the new one go (R43, R62). -/
theorem State.freeHoldings_writeRecord {i : Slot} {r0 : Record} (r1 : Record) {s : State}
    (hs : (s.slot i).record = some r0) :
    (s.writeRecord i r1).freeHoldings = s.freeHoldings + r0.body.entriesUsed - r1.body.entriesUsed := by
  simp [State.writeRecord, State.writeSlot, SlotState.entriesUsed, hs]

theorem State.freeWaiters_writeRecord {i : Slot} {r0 : Record} (r1 : Record) {s : State}
    (hs : (s.slot i).record = some r0) :
    (s.writeRecord i r1).freeWaiters = s.freeWaiters + r0.body.waiters.length - r1.body.waiters.length := by
  simp [State.writeRecord, State.writeSlot, SlotState.waiters, hs]

theorem State.freeHoldings_emptySlot {i : Slot} {r0 : Record} (r1 : Record) (c : ResultCode) {s : State}
    (hs : (s.slot i).record = some r0) :
    (s.emptySlot i r0 r1 c).freeHoldings = s.freeHoldings + r0.body.entriesUsed := by
  simp [State.emptySlot, State.writeSlot, SlotState.entriesUsed, hs]

theorem State.freeWaiters_emptySlot {i : Slot} {r0 : Record} (r1 : Record) (c : ResultCode) {s : State}
    (hs : (s.slot i).record = some r0) :
    (s.emptySlot i r0 r1 c).freeWaiters = s.freeWaiters + r0.body.waiters.length := by
  simp [State.emptySlot, State.writeSlot, SlotState.waiters, hs]

/-- The ports after a slot is emptied: the responses of R26 have been placed. -/
theorem State.ports_emptySlot (i : Slot) (r0 r1 : Record) (c : ResultCode) (s : State) :
    (s.emptySlot i r0 r1 c).ports = (s.placeAll (closedResponses r1.body ++ heldResponse r1.held c)).ports := by
  rw [State.placeAll_append]
  simp [State.emptySlot]

/-! ### Reasons -/

theorem Reasons.empty_union (r : Reasons) : Reasons.empty.union r = r := by simp [Reasons.empty, Reasons.union]

theorem Reasons.union_ne_empty {a b : Reasons} (h : b ≠ Reasons.empty) : a.union b ≠ Reasons.empty := by
  obtain ⟨b1, b2, b3, b4⟩ := b
  contrapose! h
  simp only [Reasons.union, Reasons.empty, Reasons.mk.injEq, Bool.or_eq_false_iff] at h ⊢
  exact ⟨h.1.2, h.2.1.2, h.2.2.1.2, h.2.2.2.2⟩

@[simp] theorem Reasons.keptBy_off (r : Reasons) : r.keptBy .off = Reasons.empty := rfl

/-- ENDED is kept by every mode but OFF (R118). -/
theorem Reasons.keptBy_ne_empty {r : Reasons} (h : r.ended = true) {mode : WatchMode} (hm : mode ≠ .off) :
    r.keptBy mode ≠ Reasons.empty := by
  have he : (r.keptBy mode).ended = true := by
    cases mode with
    | off => exact absurd rfl hm
    | _ => exact h
  intro hk
  rw [hk] at he
  cases he

/-! ### Changed sets -/

theorem mem_recordEntry_reasons {e x : ChangedEntry} {set : List ChangedEntry} (he : e.reasons ≠ Reasons.empty)
    (hset : ∀ y ∈ set, y.reasons ≠ Reasons.empty) (hx : x ∈ recordEntry e set) : x.reasons ≠ Reasons.empty := by
  induction set with
  | nil => rw [List.mem_singleton.1 hx]; exact he
  | cons y ys ih =>
    unfold recordEntry at hx
    split at hx
    · rcases List.mem_cons.1 hx with rfl | hx
      · exact he
      · exact hset x hx
    split at hx
    · rcases List.mem_cons.1 hx with rfl | hx
      · exact Reasons.union_ne_empty he
      · exact hset x (by simp [hx])
    · rcases List.mem_cons.1 hx with rfl | hx
      · exact hset _ (by simp)
      · exact ih (fun z hz => hset z (by simp [hz])) hx

/-- The sets of a state in slot order stay so whatever is reported (R119). -/
theorem State.changedSetsOrdered_notify {s t : State} {watch : Vector WatchMode 4} {e : ChangedEntry}
    (ht : t.changed = (s.notify watch e).changed) (h : s.changedSetsOrdered) : t.changedSetsOrdered := by
  intro p
  rw [ht, notify_set]
  obtain ⟨h1, h2⟩ := h p
  refine ⟨pairwise_noticeFor h1, ?_⟩
  by_cases hk : e.reasons.keptBy watch[p.val] = Reasons.empty
  · rw [noticeFor_kept_none hk]; exact h2
  · rw [noticeFor_kept_some hk]
    exact fun x hx => mem_recordEntry_reasons (e := { e with reasons := e.reasons.keptBy watch[p.val] }) hk h2 hx

theorem State.changedSetsOrdered_congr {s t : State} (ht : t.changed = s.changed) (h : s.changedSetsOrdered) :
    t.changedSetsOrdered := by
  intro p; rw [ht]; exact h p

theorem State.changedSetsOrdered_emptySlot {i : Slot} {r0 r1 : Record} {c : ResultCode} {s : State}
    (h : s.changedSetsOrdered) : (s.emptySlot i r0 r1 c).changedSetsOrdered :=
  State.changedSetsOrdered_notify (State.changed_emptySlot i r0 r1 c s) h

theorem State.changedSetsOrdered_updateRecord {i : Slot} {r0 r1 : Record} {s : State}
    (h : s.changedSetsOrdered) : (s.updateRecord i r0 r1).changedSetsOrdered := by
  have hc := State.changed_updateRecord i r0 r1 s
  split at hc
  · exact State.changedSetsOrdered_notify hc h
  · exact State.changedSetsOrdered_congr hc h

theorem State.changedSetsOrdered_finishEvent {i : Slot} {r0 r1 : Record} {rs : List (Port × Response)} {s : State}
    (h : s.changedSetsOrdered) : (s.finishEvent i r0 r1 rs).changedSetsOrdered := by
  have h' : (s.placeAll rs).changedSetsOrdered := State.changedSetsOrdered_congr (by simp) h
  unfold State.finishEvent
  dsimp only
  split
  · exact State.changedSetsOrdered_emptySlot h'
  · exact State.changedSetsOrdered_updateRecord h'

/-- A set after its port's set is replaced. -/
theorem changed_set (s : State) (p q : Port) (l : List ChangedEntry) :
    (s.changed.set p.val l)[q.val] = if p = q then l else s.changed[q.val] := by
  simp [Vector.getElem_set, Fin.ext_iff]

/-- A part of a set in slot order, put in its place, stands in slot order. -/
theorem State.changedSetsOrdered_set {s t : State} {p : Port} {l : List ChangedEntry} (ht : t.changed = s.changed.set p.val l)
    (hl : l.Sublist s.changed[p.val]) (h : s.changedSetsOrdered) : t.changedSetsOrdered := by
  intro q
  rw [ht, changed_set]
  split
  next hq =>
    subst hq
    exact ⟨(h p).1.sublist hl, fun e he => (h p).2 e (hl.subset he)⟩
  · exact h q

/-- A law that every end of an event keeps, the entry's events keep. -/
theorem State.dropWaiters_induction {P : State → Prop} {p : Port}
    (h : ∀ (s : State) (i : Slot) (rec : Record) (b : Pool), P s → (s.slot i).record = some rec → rec.body = .pool b →
      b.waiters.any (ofPort p) = true →
      P (s.finishEvent i rec { rec with body := .pool (b.endWaiters (ofPort p)).cascade.1 }
        (b.endWaiters (ofPort p)).cascade.2)) {s : State} (hs : P s) : P (s.dropWaiters p) := by
  unfold State.dropWaiters
  induction allSlots generalizing s with
  | nil => exact hs
  | cons i l ih =>
    refine ih ?_
    rcases State.dropWaitersAt_cases p s i with he | ⟨rec, b, hr, hb, hw, he⟩
    · rw [he]; exact hs
    · rw [he]; exact h s i rec b hs hr hb hw

theorem RequestEffect.changedSetsOrdered {c : ReqCode} {p : Port} {r : Request} {u t : State}
    (he : RequestEffect c p r u t) (h : u.changedSetsOrdered) : t.changedSetsOrdered := by
  cases he with
  | body => exact State.changedSetsOrdered_finishEvent h
  | queue => exact State.changedSetsOrdered_finishEvent h
  | hold => exact State.changedSetsOrdered_finishEvent h
  | retire => exact State.changedSetsOrdered_congr (State.reply_changed _ _ _ _ _) (State.changedSetsOrdered_emptySlot h)
  | notice _ hset =>
    refine State.changedSetsOrdered_congr (State.reply_changed _ _ _ _ _) (State.changedSetsOrdered_set (s := u) rfl ?_ h)
    rw [hset]
    exact List.sublist_cons_self _ _
  | _ => exact State.changedSetsOrdered_congr (by simp) h

theorem changedSetsOrdered_event {s t : State} (h : s.changedSetsOrdered) (he : Event s t) : t.changedSetsOrdered := by
  cases he with
  | device hd => exact State.changedSetsOrdered_congr hd.2.2.2.2.1 h
  | deviceReset a => intro p; simp [State.deviceReset, State.reset]
  | act hr ha =>
    cases ha with
    | endSelfCheck => exact State.changedSetsOrdered_congr (by unfold State.endSelfCheck; split <;> rfl) h
    | request _ he => exact he.changedSetsOrdered h
    | body => exact State.changedSetsOrdered_finishEvent h
    | empty => exact State.changedSetsOrdered_emptySlot h
    | enterDraining =>
      rename_i p _
      refine State.changedSetsOrdered_set (s := (s.modifyPort p (PortState.cleared .draining)).dropWaiters p) rfl
        (List.nil_sublist _) ?_
      exact State.dropWaiters_induction (fun _ _ _ _ hu _ _ _ => State.changedSetsOrdered_finishEvent hu) h
    | @walk p _ =>
      refine State.changedSetsOrdered_congr (s := s.reclaimSlot p (Fin.ofNat 256 s.cursors[p.val])) ?_ ?_
      · unfold State.advanceCursor; dsimp only; split <;> rfl
      · unfold State.reclaimSlot
        split
        · exact h
        · exact State.changedSetsOrdered_finishEvent h
    | _ => exact State.changedSetsOrdered_congr (by simp) h

/-! ### Line counts -/

/-- A record with this assignment and alert condition contributes to line `x`. -/
def onLine (x : LineNo) (line : Option LineAssignment) (alert : Bool) : Bool :=
  line.any (fun a => a.line == x) && contributes line alert

theorem contributesTo_some (x : LineNo) (g : Gen) (r : Record) :
    SlotState.contributesTo x ⟨g, some r⟩ = onLine x r.line r.inAlert := rfl

theorem contributesTo_record {x : LineNo} {y : SlotState} {r : Record} (h : y.record = some r) :
    y.contributesTo x = onLine x r.line r.inAlert := by
  obtain ⟨g, _⟩ := y
  subst h
  rfl

/-- The count of a line when a record's contribution moves (R127). -/
theorem lineCounts_moveLine (line : Option LineAssignment) (a b : Bool) (x : LineNo) (s : State) :
    (s.moveLine line a b).lineCounts[x.val] =
      s.lineCounts[x.val] + (if onLine x line b then 1 else 0) - (if onLine x line a then 1 else 0) := by
  cases line with
  | none => simp [State.moveLine, onLine]
  | some l =>
    unfold State.moveLine
    dsimp only
    split <;> by_cases hx : l.line = x <;> simp [onLine, lineCounts_countLine, *]

theorem lineCounts_withdrawLine (line : Option LineAssignment) (a : Bool) (x : LineNo) (s : State) :
    (s.withdrawLine line a).lineCounts[x.val] = s.lineCounts[x.val] - (if onLine x line a then 1 else 0) := by
  cases line with
  | none => simp [State.withdrawLine, onLine]
  | some l =>
    unfold State.withdrawLine
    dsimp only
    split <;> by_cases hx : l.line = x <;> simp [onLine, lineCounts_countLine, *]

theorem lineCounts_enterLine (line : Option LineAssignment) (a : Bool) (x : LineNo) (s : State) :
    (s.enterLine line a).lineCounts[x.val] = s.lineCounts[x.val] + (if onLine x line a then 1 else 0) := by
  cases line with
  | none => simp [State.enterLine, onLine]
  | some l =>
    unfold State.enterLine
    dsimp only
    split <;> by_cases hx : l.line = x <;> simp [onLine, lineCounts_countLine, *]

/-- The waiter queue plays no part in the alert condition. -/
theorem inAlert_reported (b : Body) : b.reported.inAlert = b.inAlert := by cases b <;> rfl

/-- The counts after a change report, the assignment being kept (R127). -/
theorem lineCounts_updateRecord {i : Slot} {r0 r1 : Record} (hl : r1.line = r0.line) (x : LineNo) (s : State) :
    (s.updateRecord i r0 r1).lineCounts[x.val] = s.lineCounts[x.val] +
      (if onLine x r1.line r1.inAlert then 1 else 0) - (if onLine x r0.line r0.inAlert then 1 else 0) := by
  unfold State.updateRecord
  dsimp only
  split
  · rw [lineCounts_moveLine, hl]
    rfl
  next h =>
    have hrep : r0.body.reported = r1.body.reported := by
      by_contra hne
      simp [changeReasons, hne] at h
    have ha : r1.inAlert = r0.inAlert := by
      unfold Record.inAlert
      rw [← inAlert_reported r1.body, ← hrep, inAlert_reported]
    rw [hl, ha]
    change s.lineCounts[x.val] = _
    omega

theorem lineCounts_emptySlot (i : Slot) (r0 r1 : Record) (c : ResultCode) (x : LineNo) (s : State) :
    (s.emptySlot i r0 r1 c).lineCounts[x.val] =
      s.lineCounts[x.val] - (if onLine x r0.line r0.inAlert then 1 else 0) := by
  unfold State.emptySlot
  dsimp only
  rw [State.writeSlot_lineCounts, lineCounts_withdrawLine]
  simp

/-! ### Sums over the slots -/

theorem sum_map_set {α : Type} (g : α → Nat) (x : α) (l : List α) (i : Nat) (h : i < l.length) :
    ((l.set i x).map g).sum + g l[i] = (l.map g).sum + g x := by
  induction l generalizing i with
  | nil => cases h
  | cons y ys ih =>
    cases i with
    | zero => simp; omega
    | succ i =>
      have := ih i (by simpa using h)
      simp only [List.set_cons_succ, List.map_cons, List.sum_cons, List.getElem_cons_succ]
      omega

/-- A sum over the slots when one of them is written. -/
theorem sum_slots_set (g : SlotState → Nat) (s : State) (i : Slot) (x : SlotState) :
    ((s.slots.set i.val x).toList.map g).sum + g (s.slot i) = (s.slots.toList.map g).sum + g x := by
  have h := sum_map_set g x s.slots.toList i.val (by simp)
  rw [Vector.toList_set]
  simpa [State.slot] using h

theorem countP_eq_sum_map {α : Type} (f : α → Bool) (l : List α) :
    l.countP f = (l.map fun y => if f y then 1 else 0).sum := by
  induction l with
  | nil => rfl
  | cons y ys ih => rw [List.countP_cons, ih, List.map_cons, List.sum_cons]; omega

theorem countP_slots_set (f : SlotState → Bool) (s : State) (i : Slot) (x : SlotState) :
    (s.slots.set i.val x).toList.countP f + (if f (s.slot i) then 1 else 0) =
      s.slots.toList.countP f + (if f x then 1 else 0) := by
  rw [countP_eq_sum_map, countP_eq_sum_map]
  exact sum_slots_set (fun y => if f y then 1 else 0) s i x

theorem le_countP_slots (f : SlotState → Bool) (s : State) (i : Slot) :
    (if f (s.slot i) then 1 else 0) ≤ s.slots.toList.countP f := by
  split
  next h => exact List.countP_pos_iff.2 ⟨s.slot i, by simp [State.slot], h⟩
  · exact Nat.zero_le _

/-- A count over slots that are all changed alike. -/
theorem countP_slots_map {f : SlotState → Bool} {g : SlotState → SlotState} (h : ∀ y, f (g y) = f y)
    (v : Vector SlotState 256) : (v.map g).toList.countP f = v.toList.countP f := by
  rw [Vector.toList_map, List.countP_map]
  exact List.countP_congr fun y _ => by simp [h]

/-! ### The line counts stay those of the records -/

/-- Each line's count is that of the records that contribute to it (R126). -/
def State.counted (s : State) : Prop :=
  ∀ x : LineNo, s.lineCounts[x.val] = s.slots.toList.countP (SlotState.contributesTo x)

theorem State.slots_writeRecord (i : Slot) (r : Record) (s : State) :
    (s.writeRecord i r).slots = s.slots.set i.val ⟨(s.slot i).gen, some r⟩ := rfl

theorem State.counted_congr {s t : State} (hl : t.lineCounts = s.lineCounts) (hs : t.slots = s.slots) (h : s.counted) :
    t.counted := by
  intro x; rw [hl, hs]; exact h x

theorem State.slots_updateRecord (i : Slot) (r0 r1 : Record) (s : State) :
    (s.updateRecord i r0 r1).slots = s.slots.set i.val ⟨(s.slot i).gen, some r1⟩ := by
  unfold State.updateRecord
  dsimp only
  split <;> simp [State.slots_writeRecord]

theorem State.slots_emptySlot (i : Slot) (r0 r1 : Record) (c : ResultCode) (s : State) :
    (s.emptySlot i r0 r1 c).slots = s.slots.set i.val ⟨(s.slot i).gen + 1, none⟩ := by
  unfold State.emptySlot
  simp [State.writeSlot]

theorem State.counted_updateRecord {i : Slot} {r0 r1 : Record} {s : State} (hs : (s.slot i).record = some r0)
    (hl : r1.line = r0.line) (h : s.counted) : (s.updateRecord i r0 r1).counted := by
  intro x
  have hc := countP_slots_set (SlotState.contributesTo x) s i ⟨(s.slot i).gen, some r1⟩
  rw [contributesTo_record hs, contributesTo_some] at hc
  rw [lineCounts_updateRecord hl, h x, State.slots_updateRecord]
  omega

theorem State.counted_emptySlot {i : Slot} {r0 r1 : Record} {c : ResultCode} {s : State}
    (hs : (s.slot i).record = some r0) (h : s.counted) : (s.emptySlot i r0 r1 c).counted := by
  intro x
  have hc := countP_slots_set (SlotState.contributesTo x) s i ⟨(s.slot i).gen + 1, none⟩
  rw [contributesTo_record hs, show SlotState.contributesTo x ⟨(s.slot i).gen + 1, none⟩ = false from rfl] at hc
  rw [lineCounts_emptySlot, h x, State.slots_emptySlot]
  simp only [Bool.false_eq_true, if_false] at hc
  omega

theorem State.counted_finishEvent {i : Slot} {r0 r1 : Record} {rs : List (Port × Response)} {s : State}
    (hs : (s.slot i).record = some r0) (hl : r1.line = r0.line) (h : s.counted) : (s.finishEvent i r0 r1 rs).counted := by
  have h' : (s.placeAll rs).counted := State.counted_congr (by simp) (by simp) h
  unfold State.finishEvent
  dsimp only
  split
  · exact State.counted_emptySlot (by simpa using hs) h'
  · exact State.counted_updateRecord (by simpa using hs) hl h'

/-- A record is written with its assignment and its alert condition kept, or is new and contributes to no line. -/
theorem State.counted_writeRecord {i : Slot} {r1 : Record} {s : State} (h : s.counted)
    (hr : ∀ x, onLine x r1.line r1.inAlert = (s.slot i).contributesTo x) : (s.writeRecord i r1).counted := by
  intro x
  have hc := countP_slots_set (SlotState.contributesTo x) s i ⟨(s.slot i).gen, some r1⟩
  rw [contributesTo_some, hr x] at hc
  rw [State.writeRecord_lineCounts, h x, State.slots_writeRecord]
  omega

/-- ASSIGN-LINE moves the record's contribution (R128). -/
theorem State.counted_assign {i : Slot} {r0 : Record} (line : Option LineAssignment) {s : State}
    (hs : (s.slot i).record = some r0) (h : s.counted) :
    (((s.withdrawLine r0.line r0.inAlert).enterLine line r0.inAlert).writeRecord i { r0 with line := line }).counted := by
  intro x
  have hc := countP_slots_set (SlotState.contributesTo x) s i ⟨(s.slot i).gen, some { r0 with line := line }⟩
  have hle := le_countP_slots (SlotState.contributesTo x) s i
  rw [contributesTo_record hs] at hc hle
  have hc : (s.slots.set i.val ⟨(s.slot i).gen, some { r0 with line := line }⟩).toList.countP (SlotState.contributesTo x) +
      (if onLine x r0.line r0.inAlert then 1 else 0) = s.slots.toList.countP (SlotState.contributesTo x) +
      (if onLine x line r0.inAlert then 1 else 0) := hc
  rw [State.writeRecord_lineCounts, lineCounts_enterLine, lineCounts_withdrawLine, h x, State.slots_writeRecord]
  simp only [State.enterLine_slots, State.withdrawLine_slots, State.enterLine_slot, State.withdrawLine_slot]
  omega

theorem contributesTo_countDown (x : LineNo) (y : SlotState) : y.countDown.contributesTo x = y.contributesTo x := by
  obtain ⟨g, _ | r⟩ := y
  · rfl
  · have : r.body.countDown.inAlert = r.body.inAlert := by cases r.body <;> rfl
    simp [SlotState.countDown, SlotState.contributesTo, Record.inAlert, this]

theorem contributesTo_forget (p : Port) (x : LineNo) (y : SlotState) : (y.forget p).contributesTo x = y.contributesTo x := by
  obtain ⟨g, _ | r⟩ := y <;> rfl

theorem State.counted_enterDraining (p : Port) {s : State} (h : s.counted) : (s.enterDraining p).counted := by
  have h1 : ((s.modifyPort p (PortState.cleared .draining)).dropWaiters p).counted :=
    State.dropWaiters_induction (P := State.counted)
      (fun _ _ _ _ hu hr _ _ => State.counted_finishEvent hr rfl hu) h
  intro x
  unfold State.enterDraining
  dsimp only
  exact (h1 x).trans (countP_slots_map (contributesTo_forget p x) _).symm

theorem RequestEffect.counted {c : ReqCode} {p : Port} {r : Request} {u t : State}
    (he : RequestEffect c p r u t) (h : u.counted) : t.counted := by
  cases he with
  | body _ _ hs => exact State.counted_finishEvent hs rfl h
  | queue hs => exact State.counted_finishEvent hs rfl h
  | hold hs => exact State.counted_finishEvent hs rfl h
  | retire hs => exact State.counted_congr (State.reply_lineCounts _ _ _ _ _) (State.reply_slots _ _ _ _ _) (State.counted_emptySlot hs h)
  | own hs =>
    refine State.counted_congr (State.reply_lineCounts _ _ _ _ _) (State.reply_slots _ _ _ _ _)
      (State.counted_writeRecord h fun x => ?_)
    rw [contributesTo_record hs]; rfl
  | watch mode hs =>
    refine State.counted_congr (State.reply_lineCounts _ _ _ _ _) (State.reply_slots _ _ _ _ _)
      (State.counted_writeRecord h fun x => ?_)
    rw [contributesTo_record hs]; rfl
  | assign line hs =>
    exact State.counted_congr (State.reply_lineCounts _ _ _ _ _) (State.reply_slots _ _ _ _ _)
      (State.counted_assign line hs h)
  | @create i _ _ _ _ hl =>
    refine State.counted_congr (State.reply_lineCounts _ _ _ _ _) (State.reply_slots _ _ _ _ _)
      (State.counted_writeRecord h fun x => ?_)
    have hn : (u.slot i).record = none := by simpa using List.find?_some hl
    simp [SlotState.contributesTo, hn, newRecord, onLine]
  | _ => exact State.counted_congr (by simp) (by simp) h

theorem counted_event {s t : State} (h : s.counted) (hn : s.condition ≠ .ready → ∀ i : Slot, (s.slot i).record = none)
    (he : Event s t) : t.counted := by
  have hnone : ∀ u : State, (∀ x : LineNo, u.lineCounts[x.val] = 0) → (u.slots = Vector.replicate 256 SlotState.reset) →
      u.counted := by
    intro u hu hs x
    rw [hu x, hs, Vector.toList_replicate, List.countP_replicate]
    rfl
  cases he with
  | device hd => exact State.counted_congr hd.2.2.2.2.2.1 hd.2.1 h
  | deviceReset a => exact hnone _ (by simp [State.deviceReset, State.reset]) rfl
  | act hr ha =>
    cases ha with
    | endSelfCheck hc =>
      refine hnone _ (fun x => ?_) (by unfold State.endSelfCheck; split <;> rfl)
      have hempty := hn (by simp [hc])
      have hl : s.endSelfCheck.lineCounts = s.lineCounts := by unfold State.endSelfCheck; split <;> rfl
      rw [hl, h x, List.countP_eq_zero]
      intro y hy
      obtain ⟨i, hi, rfl⟩ := List.getElem_of_mem hy
      have := hempty ⟨i, by simpa using hi⟩
      simp only [State.slot] at this
      simp [SlotState.contributesTo, this]
    | request _ he => exact he.counted (State.counted_congr rfl rfl h)
    | body hs => exact State.counted_finishEvent hs rfl h
    | empty _ hs => exact State.counted_emptySlot hs h
    | countDown => exact fun x => (h x).trans (countP_slots_map (contributesTo_countDown x) _).symm
    | enterDraining => exact State.counted_enterDraining _ h
    | @walk p _ =>
      refine State.counted_congr (s := s.reclaimSlot p (Fin.ofNat 256 s.cursors[p.val])) ?_ ?_ ?_
      · unfold State.advanceCursor; dsimp only; split <;> rfl
      · unfold State.advanceCursor; dsimp only; split <;> rfl
      · unfold State.reclaimSlot
        split
        · exact h
        next hs => exact State.counted_finishEvent hs rfl h
    | _ => exact State.counted_congr (by simp) (by simp) h

/-- A record stands in a slot after an event only where one stood, or in service. -/
theorem RecordMove.record_or_ready {s : State} {j : Slot} {r : Record} (h : RecordMove s j r) :
    (s.slot j).record ≠ none ∨ s.condition = .ready := by
  cases h with
  | created hr => exact .inr hr
  | kept h0 => exact .inl (by simp [h0])
  | changed h0 => exact .inl (by simp [h0])
  | queued h0 => exact .inl (by simp [h0])
  | held h0 => exact .inl (by simp [h0])
  | counted h0 => exact .inl (by simp [h0])
  | left h0 => exact .inl (by simp [h0])

/-- An event that changes the condition leaves an empty table. -/
theorem Event.condition_or_empty {s t : State} (h : Event s t) :
    t.condition = s.condition ∨ ∀ j : Slot, (t.slot j).record = none := by
  cases h with
  | device hd => exact .inl hd.2.2.2.2.2.2.2
  | deviceReset a => exact .inr fun j => by simp [State.deviceReset, State.reset, State.slot, SlotState.reset]
  | act hr ha =>
    rcases ha.device with ⟨-, -, -, -, hc⟩
    rcases hc with hc | ⟨-, rfl⟩
    · exact .inl hc
    · refine .inr fun j => ?_
      have : s.endSelfCheck.slots = Vector.replicate 256 SlotState.reset := by unfold State.endSelfCheck; split <;> rfl
      simp [State.slot, this, SlotState.reset]

theorem emptyUnlessReady_event {s t : State} (hn : s.condition ≠ .ready → ∀ i : Slot, (s.slot i).record = none)
    (he : Event s t) : t.condition ≠ .ready → ∀ i : Slot, (t.slot i).record = none := by
  intro hc j
  rcases he.condition_or_empty with h | h
  · by_contra hj
    obtain ⟨r, hr⟩ := Option.ne_none_iff_exists'.1 hj
    rcases (he.recordMove hr).record_or_ready with h1 | h1
    · exact h1 (hn (h ▸ hc) j)
    · exact hc (h.trans h1)
  · exact h j

end Sys2Proof.Machine

namespace Sys2Proof.Proofs

open Sys2Proof.Machine

/-- Settles O55: an entry is recorded in its place, with a reason, and else sets are only cut down. -/
theorem changedSetsStayOrdered : Obligations.ChangedSetsStayOrdered := by
  intro s t hs h
  exact step_keeps (P := State.changedSetsOrdered) (fun _ _ => changedSetsOrdered_event) hs h

/-- Settles O54: the end of an event moves the count of the assigned line as it moves the record's contribution. -/
theorem linesStayCounted : Obligations.LinesStayCounted := by
  refine ⟨fun x y => ?_, fun s t hs h => ?_⟩
  · obtain ⟨g, _ | r⟩ := y
    · simp [SlotState.contributesTo]
    · rw [contributesTo_some]
      obtain ⟨key, state, owner, _ | ⟨l, sense⟩, watch, held, body⟩ := r
      · simp [onLine]
      · cases sense <;> simp [onLine, contributes]
  · exact step_keeps (P := State.linesCounted)
      (fun s t hs he => ⟨counted_event hs.1 hs.2 he, emptyUnlessReady_event hs.2 he⟩) hs h

end Sys2Proof.Proofs
end

section
/-! The end of an event, field by field (O16, O17, O18); the bounds of the ports (O56); and what stands before READY and in reset
(O59). -/

namespace Sys2Proof.Machine

/-! ### What the end of an event leaves alone -/

theorem State.sameDevice_updateRecord (i : Slot) (r0 r1 : Record) (s : State) : s.sameDevice (s.updateRecord i r0 r1) := by
  simp [State.sameDevice]

theorem State.sameDevice_emptySlot (i : Slot) (r0 r1 : Record) (c : ResultCode) (s : State) :
    s.sameDevice (s.emptySlot i r0 r1 c) := by
  simp [State.sameDevice]

theorem reported_eq_iff (b c : Body) : b.reported = c.reported ↔
    match b, c with
    | .pool x, .pool y => x.stock = y.stock ∧ x.level = y.level ∧ x.lowMark = y.lowMark ∧ x.holdings = y.holdings
    | b, c => b = c := by
  cases b <;> cases c <;> simp [Body.reported]

/-- The entry of slot `i` in a port's set after a report for that slot that the port's mode keeps reasons of (R118, R120). -/
theorem entryOf_notify_self {s t : State} {watch : Vector WatchMode 4} {i : Slot} {g : Gen} {reasons : Reasons}
    (ho : s.changedSetsOrdered) (ht : t.changed = (s.notify watch ⟨i, g, reasons⟩).changed) {p : Port}
    (hk : reasons.keptBy watch[p.val] ≠ Reasons.empty) :
    entryOf i t.changed[p.val] = some ⟨i, g,
      (((entryOf i s.changed[p.val]).map (·.reasons)).getD Reasons.empty).union (reasons.keptBy watch[p.val])⟩ := by
  simp only [ht, notify_set]
  rw [noticeFor_kept_some hk]
  exact entryOf_recordEntry_self ⟨i, g, reasons.keptBy watch[p.val]⟩ (ho p).1

theorem entryOf_notify_ne {s t : State} {watch : Vector WatchMode 4} {i j : Slot} {g : Gen} {reasons : Reasons}
    (ht : t.changed = (s.notify watch ⟨i, g, reasons⟩).changed) (hj : j ≠ i) (p : Port) :
    entryOf j t.changed[p.val] = entryOf j s.changed[p.val] := by
  simp only [ht, notify_set]
  by_cases hk : reasons.keptBy watch[p.val] = Reasons.empty
  · rw [noticeFor_kept_none hk]
  · rw [noticeFor_kept_some hk, entryOf_recordEntry_ne hj]

theorem set_notify_none {s t : State} {watch : Vector WatchMode 4} {e : ChangedEntry}
    (ht : t.changed = (s.notify watch e).changed) {p : Port} (hk : e.reasons.keptBy watch[p.val] = Reasons.empty) :
    t.changed[p.val] = s.changed[p.val] := by
  simp only [ht, notify_set]
  exact noticeFor_kept_none hk _

theorem changeReasons_body {r0 r1 : Record} :
    (changeReasons r0 r1).body = true ↔ r0.body.reported ≠ r1.body.reported ∨ r0.state ≠ r1.state := by
  simp [changeReasons]

/-! ### The bounds of a port -/

theorem PortState.bounded_place {q : PortState} {more : List Response} (h : q.bounded)
    (hm : ∀ r ∈ more, r.data.length ≤ 9) : ({ q with responses := q.responses ++ more } : PortState).bounded := by
  obtain ⟨h1, h2, h3, h4⟩ := h
  refine ⟨h1, h2, ?_, ?_⟩
  · cases hq : q.responses with
    | nil =>
      rw [hq] at h3
      cases more with
      | nil => exact h3
      | cons r rs => exact (Nat.le_of_eq h3).trans (Nat.zero_le _)
    | cons r rs => rw [hq] at h3; exact h3
  · intro r hr
    rcases List.mem_append.1 hr with hr | hr
    · exact h4 r hr
    · exact hm r hr

theorem PortState.bounded_stage {q : PortState} (w : Word) (h : q.bounded) : (q.stage w).bounded := by
  obtain ⟨h1, h2, h3, h4⟩ := h
  unfold PortState.stage
  split
  next hl =>
    simp only [Config.stagingWords] at hl
    refine ⟨?_, fun ho => ?_, h3, h4⟩
    · simp; omega
    · have := h2 ho; omega
  next hl =>
    simp only [Config.stagingWords] at hl
    exact ⟨h1, fun _ => by dsimp only; omega, h3, h4⟩

theorem PortState.bounded_clearStaging {q : PortState} (h : q.bounded) : q.clearStaging.bounded :=
  ⟨Nat.zero_le _, nofun, h.2.2⟩

theorem PortState.bounded_submit {q : PortState} (w : Word) (refusal : Option RefusalReason) (h : q.bounded) :
    (q.submit w refusal).bounded := by
  have hc := PortState.bounded_clearStaging h
  unfold PortState.submit
  split
  · exact hc
  split
  · exact PortState.bounded_place (q := q.clearStaging) (more := [_]) hc (by simp)
  · exact hc
  · exact hc

theorem PortState.bounded_readResponse {q : PortState} (h : q.bounded) : q.readResponse.bounded := by
  obtain ⟨mode, staging, overflow, intake, outstanding, responses, readPos⟩ := q
  obtain ⟨h1, h2, h3, h4⟩ := h
  cases responses with
  | nil => exact ⟨h1, h2, h3, h4⟩
  | cons r rest =>
    unfold PortState.readResponse
    dsimp only
    split
    next hl => exact ⟨h1, h2, hl, h4⟩
    · refine ⟨h1, h2, ?_, fun x hx => h4 x (List.mem_cons_of_mem _ hx)⟩
      cases rest with
      | nil => rfl
      | cons _ _ => exact Nat.zero_le _

theorem PortState.bounded_control {q : PortState} (w : Word) (h : q.bounded) : (q.control w).bounded := by
  obtain ⟨h1, h2, h3, h4⟩ := h
  unfold PortState.control
  cases w.getLsbD 3
  · exact ⟨h1, fun ho => h2 (by simpa using ho), h3, h4⟩
  · exact ⟨Nat.zero_le _, fun ho => by simp at ho, h3, h4⟩

theorem State.ports_enterDraining (p : Port) (s : State) :
    (s.enterDraining p).ports = ((s.modifyPort p (PortState.cleared .draining)).dropWaiters p).ports := by
  simp only [State.enterDraining]

theorem State.condition_enterDraining (p : Port) (s : State) :
    (s.enterDraining p).condition = ((s.modifyPort p (PortState.cleared .draining)).dropWaiters p).condition := by
  simp only [State.enterDraining]

theorem PortState.bounded_reset : PortState.reset.bounded := ⟨Nat.zero_le _, nofun, rfl, by simp [PortState.reset]⟩

theorem PortState.bounded_cleared (mode : PortMode) (q : PortState) : (q.cleared mode).bounded := PortState.bounded_reset

theorem State.portsBounded_congr {s t : State} (ht : t.ports = s.ports) (h : s.portsBounded) : t.portsBounded := by
  intro p
  rw [show t.port p = s.port p by simp [State.port, ht]]
  exact h p

theorem State.portsBounded_modifyPort {p : Port} {f : PortState → PortState} {s : State} (h : s.portsBounded)
    (hf : (s.port p).bounded → (f (s.port p)).bounded) : (s.modifyPort p f).portsBounded := by
  intro q
  rw [State.port_modifyPort]
  split
  · exact hf (h p)
  · exact h q

theorem State.portsBounded_placeAll {rs : List (Port × Response)} {s : State} (h : s.portsBounded)
    (hr : ∀ a ∈ rs, a.2.data.length ≤ 9) : (s.placeAll rs).portsBounded := by
  intro p
  rw [State.port_placeAll]
  split
  · exact h p
  · refine PortState.bounded_place (h p) fun r hrm => ?_
    obtain ⟨a, ha, rfl⟩ := List.mem_map.1 hrm
    exact hr a (List.mem_of_mem_filter ha)

theorem data_closing (b : Body) (held : HeldRetire) (c : ResultCode) :
    ∀ a ∈ closedResponses b ++ heldResponse held c, a.2.data.length ≤ 9 := by
  intro a ha
  rcases List.mem_append.1 ha with ha | ha
  · obtain ⟨w, -, rfl⟩ := List.mem_map.1 ha; simp
  · cases held with
    | pending p t => rw [List.mem_singleton.1 ha]; simp
    | _ => cases ha

theorem State.portsBounded_emptySlot {i : Slot} {r0 r1 : Record} {c : ResultCode} {s : State} (h : s.portsBounded) :
    (s.emptySlot i r0 r1 c).portsBounded :=
  State.portsBounded_congr (State.ports_emptySlot i r0 r1 c s) (State.portsBounded_placeAll h (data_closing _ _ _))

theorem State.portsBounded_finishEvent {i : Slot} {r0 r1 : Record} {rs : List (Port × Response)} {s : State}
    (h : s.portsBounded) (hr : ∀ a ∈ rs, a.2.data.length ≤ 9) : (s.finishEvent i r0 r1 rs).portsBounded := by
  have h' := State.portsBounded_placeAll h hr
  unfold State.finishEvent
  dsimp only
  split
  · exact State.portsBounded_emptySlot h'
  · exact State.portsBounded_congr (State.updateRecord_ports _ _ _ _) h'

theorem State.portsBounded_reply {p : Port} {r : Request} {result : ResultCode} {data : List Word} {s : State}
    (h : s.portsBounded) (hd : data.length ≤ 9) : (s.reply p r result data).portsBounded :=
  State.portsBounded_placeAll (rs := [(p, answer r result data)]) h (by simpa [answer] using hd)

theorem RequestEffect.portsBounded {c : ReqCode} {p : Port} {r : Request} {u t : State}
    (he : RequestEffect c p r u t) (h : u.portsBounded) : t.portsBounded := by
  cases he with
  | reply _ hd => exact State.portsBounded_reply h hd
  | exhausted => exact State.portsBounded_reply (State.portsBounded_congr rfl h) (by simp)
  | body result hi hs hb hd =>
    refine State.portsBounded_finishEvent h fun a ha => ?_
    rcases List.mem_append.1 ha with ha | ha
    · exact hb.data a ha
    · rw [List.mem_singleton.1 ha]; exact hd
  | queue => exact State.portsBounded_finishEvent h (by simp)
  | hold => exact State.portsBounded_finishEvent h fun a ha => data_closing _ .absent .done a (List.mem_append_left _ ha)
  | retire => exact State.portsBounded_reply (State.portsBounded_emptySlot h) (by simp)
  | own | watch => exact State.portsBounded_reply (State.portsBounded_congr rfl h) (by simp)
  | assign => exact State.portsBounded_reply (State.portsBounded_congr (by simp) h) (by simp)
  | create => exact State.portsBounded_reply (State.portsBounded_congr rfl h) (by simp)
  | notice => exact State.portsBounded_reply (State.portsBounded_congr rfl h) (by simp [ChangedEntry.words])

theorem portsBounded_event {s t : State} (h : s.portsBounded) (he : Event s t) : t.portsBounded := by
  cases he with
  | device hd => exact State.portsBounded_congr hd.1 h
  | deviceReset a => exact fun p => State.port_reset p ▸ PortState.bounded_reset
  | act hr ha =>
    cases ha with
    | endSelfCheck => exact State.portsBounded_congr (by unfold State.endSelfCheck; split <;> rfl) h
    | stage p w => exact State.portsBounded_modifyPort h (PortState.bounded_stage w)
    | submit p w => exact State.portsBounded_modifyPort h (PortState.bounded_submit w _)
    | readResponse p => exact State.portsBounded_modifyPort h PortState.bounded_readResponse
    | control p w => exact State.portsBounded_modifyPort h (PortState.bounded_control w)
    | fence p _ | unfence p _ => exact State.portsBounded_modifyPort h id
    | request _ he => exact he.portsBounded (State.portsBounded_modifyPort (f := fun q => { q with intake := _ }) h id)
    | body _ hb => exact State.portsBounded_finishEvent h hb.data
    | empty => exact State.portsBounded_emptySlot h
    | countDown => exact State.portsBounded_congr rfl h
    | @enterDraining p _ =>
      have h1 := State.portsBounded_modifyPort h fun _ => PortState.bounded_cleared .draining (s.port p)
      refine State.portsBounded_congr (State.ports_enterDraining p s) ?_
      exact State.dropWaiters_induction (P := State.portsBounded)
        (fun _ _ _ _ hu _ _ _ => State.portsBounded_finishEvent hu (data_cascadeUpTo _ _)) h1
    | clearOffline => exact State.portsBounded_modifyPort h fun _ => PortState.bounded_cleared _ _
    | @walk p _ =>
      have h1 : (s.reclaimSlot p (Fin.ofNat 256 s.cursors[p.val])).portsBounded := by
        unfold State.reclaimSlot
        split
        · exact h
        · exact State.portsBounded_finishEvent h (bodyEvent_reclaim 0 none p _).data
      unfold State.advanceCursor
      dsimp only
      split
      · exact State.portsBounded_congr rfl h1
      · exact State.portsBounded_modifyPort (f := fun q => { q with mode := .offline }) (State.portsBounded_congr rfl h1) id

/-! ### Before READY, and in reset -/

/-- Whatever the entry of a port into DRAINING does to the records, a port is left with its fields but for the tail of its
response queue. -/
theorem State.port_dropWaiters_tail (p q : Port) (s : State) :
    ∃ more, (s.dropWaiters p).port q = { s.port q with responses := (s.port q).responses ++ more } :=
  State.dropWaiters_induction (P := fun u => ∃ more, u.port q = { s.port q with responses := (s.port q).responses ++ more })
    (fun u i rec b ⟨more, hu⟩ _ _ _ => by
      obtain ⟨m, hm⟩ := State.port_finishEvent_tail q i rec { rec with body := .pool (b.endWaiters (ofPort p)).cascade.1 }
        (b.endWaiters (ofPort p)).cascade.2 u
      exact ⟨more ++ m, by rw [hm, hu]; simp⟩) ⟨[], by simp⟩

/-- No port is refused with FAULT but in a FAILED device (R186). -/
def State.faultsOnlyFailed (s : State) : Prop := ∀ p : Port, (s.port p).refusalReason = some .fault → s.condition = .failed

theorem State.faultsOnlyFailed_of {s t : State} (hc : t.condition = s.condition)
    (hp : ∀ p, (t.port p).refusalReason = (s.port p).refusalReason ∨ (t.port p).refusalReason ≠ some .fault)
    (h : s.faultsOnlyFailed) : t.faultsOnlyFailed := by
  intro p hf
  rw [hc]
  rcases hp p with h1 | h1
  · exact h p (h1 ▸ hf)
  · exact absurd hf h1

/-- An update of one port's state that brings up no FAULT. -/
theorem State.faultsOnlyFailed_modifyPort {p : Port} {f : PortState → PortState} {s : State} (h : s.faultsOnlyFailed)
    (hf : (f (s.port p)).refusalReason = (s.port p).refusalReason ∨ (f (s.port p)).refusalReason ≠ some .fault) :
    (s.modifyPort p f).faultsOnlyFailed := by
  refine State.faultsOnlyFailed_of (by simp) (fun q => ?_) h
  rw [State.port_modifyPort]
  split
  next hq => exact hq ▸ hf
  · exact .inl rfl

theorem refusalOf_fault {p : Port} {w : Word} {s : State} (h : s.refusalOf p w = some .fault) : s.condition = .failed := by
  unfold State.refusalOf at h
  split at h
  · cases h
  split at h
  next hf => exact hf
  split at h
  next reason hm =>
    cases h
    unfold modeRefusal at hm
    repeat' split at hm
    all_goals cases hm
  all_goals (repeat' split at h) <;> cases h

theorem PortState.refusalReason_submit (w : Word) (refusal : Option RefusalReason) (q : PortState) :
    (q.submit w refusal).refusalReason = if refusal.isSome then refusal else q.refusalReason := by
  unfold PortState.submit
  split
  · rfl
  split <;> rfl

theorem State.faultsOnlyFailed_submit {p : Port} {w : Word} {s : State} (h : s.faultsOnlyFailed) :
    (s.submit p w).faultsOnlyFailed := by
  intro q hf
  unfold State.submit at hf
  rw [State.port_modifyPort] at hf
  split at hf
  · rw [PortState.refusalReason_submit] at hf
    split at hf
    · exact (refusalOf_fault hf : s.condition = .failed)
    · exact h p hf
  · exact h q hf

theorem PortState.refusalReason_readResponse (q : PortState) : q.readResponse.refusalReason = q.refusalReason := by
  unfold PortState.readResponse
  split
  · rfl
  split <;> rfl

theorem PortState.refusalReason_stage (w : Word) (q : PortState) : (q.stage w).refusalReason = q.refusalReason := by
  unfold PortState.stage
  split <;> rfl

/-- A reply changes no port but by the tail of its response queue. -/
theorem State.port_reply_tail (q : Port) (p : Port) (r : Request) (c : ResultCode) (d : List Word) (s : State) :
    ∃ more, (s.reply p r c d).port q = { s.port q with responses := (s.port q).responses ++ more } :=
  State.port_placeAll_tail q [(p, answer r c d)] s

theorem State.port_emptySlot_tail (q : Port) (i : Slot) (r0 r1 : Record) (c : ResultCode) (s : State) :
    ∃ more, (s.emptySlot i r0 r1 c).port q = { s.port q with responses := (s.port q).responses ++ more } := by
  obtain ⟨more, h⟩ := State.port_placeAll_tail q (closedResponses r1.body ++ heldResponse r1.held c) s
  exact ⟨more, by rw [← h]; simp [State.port, State.ports_emptySlot]⟩

/-- A request changes no port but by the tail of its response queue. -/
theorem RequestEffect.port_tail {c : ReqCode} {p : Port} {r : Request} {u t : State} (he : RequestEffect c p r u t)
    (q : Port) : ∃ more, t.port q = { u.port q with responses := (u.port q).responses ++ more } := by
  cases he with
  | body => exact State.port_finishEvent_tail ..
  | queue => exact State.port_finishEvent_tail ..
  | hold => exact State.port_finishEvent_tail ..
  | @retire rec hs hl =>
    obtain ⟨m1, h1⟩ := State.port_emptySlot_tail q r.target rec rec .done u
    obtain ⟨m2, h2⟩ := State.port_reply_tail q p r .done [] (u.emptySlot r.target rec rec .done)
    exact ⟨m1 ++ m2, by rw [h2, h1]; simp⟩
  | @own rec hs => exact State.port_reply_tail q p r .done [] (u.writeRecord _ _)
  | @watch rec mode hs => exact State.port_reply_tail q p r .done [] (u.writeRecord _ _)
  | @assign rec line hs =>
    obtain ⟨m, h⟩ := State.port_reply_tail q p r .done [] (((u.withdrawLine rec.line rec.inAlert).enterLine line
      rec.inAlert).writeRecord r.target { rec with line := line })
    exact ⟨m, by rw [h]; simp⟩
  | create => exact State.port_reply_tail q p r .done _ (u.writeRecord _ _)
  | reply => exact State.port_reply_tail ..
  | exhausted n result => exact State.port_reply_tail q p r result [] (u.setReason n)
  | @notice e rest _ _ => exact State.port_reply_tail q p r .done e.words { u with changed := u.changed.set p.val rest }

theorem State.faultsOnlyFailed_finishEvent {i : Slot} {r0 r1 : Record} {rs : List (Port × Response)} {s : State}
    (h : s.faultsOnlyFailed) : (s.finishEvent i r0 r1 rs).faultsOnlyFailed := by
  refine State.faultsOnlyFailed_of (by simp) (fun q => .inl ?_) h
  obtain ⟨more, hm⟩ := State.port_finishEvent_tail q i r0 r1 rs s
  rw [hm]

theorem faultsOnlyFailed_act {s t : State} (h : s.faultsOnlyFailed) (ha : Act s t) : t.faultsOnlyFailed := by
  have hcond := ha.device.2.2.2.2
  cases ha with
  | endSelfCheck hc =>
    intro p hf
    have hp : (s.endSelfCheck.port p) = s.port p := by unfold State.endSelfCheck; split <;> rfl
    have := h p (hp ▸ hf)
    rw [hc] at this
    cases this
  | stage p w => exact State.faultsOnlyFailed_modifyPort h (.inl (PortState.refusalReason_stage _ _))
  | submit p w => exact State.faultsOnlyFailed_submit h
  | readResponse p => exact State.faultsOnlyFailed_modifyPort h (.inl (PortState.refusalReason_readResponse _))
  | control p w => exact State.faultsOnlyFailed_modifyPort h (.inl rfl)
  | fence p _ | unfence p _ => exact State.faultsOnlyFailed_modifyPort h (.inl rfl)
  | @request p c r rest t hat he =>
    have hc : t.condition = (s.turnTaken p rest).condition := by cases he <;> simp
    refine State.faultsOnlyFailed_of (s := s.turnTaken p rest) hc (fun q => .inl ?_)
      (State.faultsOnlyFailed_modifyPort (f := fun q => { q with intake := rest }) h (.inl rfl))
    obtain ⟨more, hm⟩ := he.port_tail q
    rw [hm]
  | body => exact State.faultsOnlyFailed_finishEvent h
  | @empty i rec result _ =>
    refine State.faultsOnlyFailed_of (by simp) (fun q => .inl ?_) h
    obtain ⟨more, hm⟩ := State.port_emptySlot_tail q i rec rec result s
    rw [hm]
  | countDown => exact h
  | @enterDraining p _ =>
    have h1 : (s.modifyPort p (PortState.cleared .draining)).faultsOnlyFailed :=
      State.faultsOnlyFailed_modifyPort h (.inr nofun)
    refine State.faultsOnlyFailed_of (State.condition_enterDraining p s)
      (fun q => .inl (by simp [State.port, State.ports_enterDraining])) ?_
    exact State.dropWaiters_induction (P := State.faultsOnlyFailed)
      (fun _ _ _ _ hu _ _ _ => State.faultsOnlyFailed_finishEvent hu) h1
  | clearOffline => exact State.faultsOnlyFailed_modifyPort h (.inr nofun)
  | @walk p _ =>
    have h1 : (s.reclaimSlot p (Fin.ofNat 256 s.cursors[p.val])).faultsOnlyFailed := by
      unfold State.reclaimSlot
      split
      · exact h
      · exact State.faultsOnlyFailed_finishEvent h
    unfold State.advanceCursor
    dsimp only
    split
    · exact h1
    · exact State.faultsOnlyFailed_modifyPort (f := fun q => { q with mode := .offline })
        (s := { s.reclaimSlot p (Fin.ofNat 256 s.cursors[p.val]) with cursors := _ }) h1 (.inl rfl)

/-- While the device is not READY a submission leaves its port's mode. -/
theorem mode_submit_of_not_ready {p : Port} {w : Word} {s : State} (hc : s.condition ≠ .ready) (q : Port) :
    ((s.submit p w).port q).mode = (s.port q).mode := by
  unfold State.submit
  rw [State.port_modifyPort]
  split
  next hq =>
    subst hq
    have : ∃ reason, s.refusalOf p w = some reason := by
      unfold State.refusalOf
      cases h : s.condition with
      | ready => exact absurd h hc
      | checking => exact ⟨_, rfl⟩
      | failed => exact ⟨_, rfl⟩
    obtain ⟨reason, hr⟩ := this
    rw [hr]
    rfl
  · rfl

/-- In a part that is not READY, whose table is empty and whose ports are OFFLINE, an act leaves every port OFFLINE. -/
theorem offline_act {s t : State} (hc : s.condition ≠ .ready) (hn : ∀ i : Slot, (s.slot i).record = none)
    (hp : ∀ p : Port, (s.port p).mode = .offline) (ha : Act s t) (p : Port) : (t.port p).mode = .offline := by
  have hmod : ∀ (q : Port) (f : PortState → PortState), (f (s.port q)).mode = (s.port q).mode →
      ((s.modifyPort q f).port p).mode = .offline := by
    intro q f hf
    rw [State.port_modifyPort]
    split
    · rw [hf]; exact hp q
    · exact hp p
  cases ha with
  | endSelfCheck h =>
    rw [show (s.endSelfCheck.port p) = s.port p by unfold State.endSelfCheck; split <;> rfl]
    exact hp p
  | stage q w => exact hmod q _ (by unfold PortState.stage; split <;> rfl)
  | submit q w => rw [mode_submit_of_not_ready hc]; exact hp p
  | readResponse q => exact hmod q _ (by unfold PortState.readResponse; split; rfl; split <;> rfl)
  | control q w => exact hmod q _ rfl
  | fence q h | unfence q h => rw [hp q] at h; cases h
  | request h => exact absurd (State.inService_of_turn h.1).1.2 hc
  | body hs | empty _ hs => rw [hn] at hs; cases hs
  | countDown => exact hp p
  | @enterDraining q h => rw [hp q] at h; rcases h with h | h <;> cases h
  | clearOffline => exact hmod _ _ (by rw [hp]; rfl)
  | walk h =>
    have := (State.walking_iff.1 h).1
    rw [hp] at this
    cases this

theorem idleUnlessReady_event {s t : State} (h : s.idleUnlessReady) (he : Event s t) : t.idleUnlessReady := by
  obtain ⟨h1, h2⟩ := h
  have hempty := emptyUnlessReady_event (fun hc => (h1 hc).1) he
  cases he with
  | device hd hnew _ =>
    obtain ⟨hports, -, -, -, -, -, -, hcond⟩ := hd
    have hport : ∀ p, t.port p = s.port p := fun p => by simp [State.port, hports]
    obtain ⟨n1, n2, n3⟩ := hnew
    refine ⟨fun hc => ⟨hempty hc, ?_⟩, fun p => ?_⟩
    · rw [hcond] at hc
      obtain ⟨-, hm, hx, hcl, hp⟩ := h1 hc
      refine ⟨fun p => by rw [hport]; exact hm p, ?_, ?_, ?_⟩
      · by_contra hne; exact (n1 hne).elim hc (· hx)
      · by_contra hne; exact (n2 hne).elim hc (· hcl)
      · by_contra hne; exact (n3 hne).elim hc (· hp)
    · rw [hport, hcond]; exact h2 p
  | deviceReset a =>
    exact ⟨fun hc => ⟨hempty hc, fun p => by simp [State.deviceReset, State.reset, State.port, PortState.reset],
      rfl, rfl, rfl⟩, fun p => by simp [State.deviceReset, State.reset, State.port, PortState.reset]⟩
  | act hr ha =>
    obtain ⟨-, hx, hcl, hp, hcond⟩ := ha.device
    refine ⟨fun hc => ⟨hempty hc, ?_⟩, faultsOnlyFailed_act h2 ha⟩
    have hc' : s.condition ≠ .ready := by
      rcases hcond with h | ⟨h, -⟩
      · exact h ▸ hc
      · simp [h]
    obtain ⟨hn, hm, hx', hcl', hp'⟩ := h1 hc'
    exact ⟨offline_act hc' hn hm ha, hx.trans hx', hcl.trans hcl', hp.trans hp'⟩

theorem heldInReset_event {s t : State} (h : s.heldInReset) (he : Event s t) : t.heldInReset := by
  cases he with
  | device _ _ hr => exact hr h
  | deviceReset a => intro ha; rw [show a = true from ha]; rfl
  | act hr ha => intro ht; rw [ha.resetAsserted, hr] at ht; cases ht

end Sys2Proof.Machine

namespace Sys2Proof.Proofs

open Sys2Proof.Machine

/-- Settles O16: the report is that of `changeReasons`, and each block takes from it what its own rule says. -/
theorem changeReportReachesSetsAndLine : Obligations.ChangeReportReachesSetsAndLine := by
  refine ⟨reported_eq_iff, ⟨rfl, fun a b => rfl⟩, fun s i r0 r1 ho hs hl => ?_, fun r => ⟨rfl, rfl, rfl, rfl⟩⟩
  have hch := State.changed_updateRecord i r0 r1 s
  refine ⟨?_, fun j hj => ?_, ?_, ?_, fun hn => ⟨?_, ?_⟩, fun hc p => ?_, fun x => lineCounts_updateRecord hl x s,
    State.sameDevice_updateRecord i r0 r1 s, State.updateRecord_ports i r0 r1 s, State.updateRecord_rotation i r0 r1 s,
    State.updateRecord_mattnReasons i r0 r1 s⟩
  · rw [State.slot_updateRecord, if_pos rfl]
  · rw [State.slot_updateRecord, if_neg fun h => hj h.symm]
  · rw [State.freeHoldings_updateRecord, State.freeHoldings_writeRecord r1 hs]
  · rw [State.freeWaiters_updateRecord, State.freeWaiters_writeRecord r1 hs]
  · rw [hch, if_neg fun h => hn (changeReasons_body.1 h)]
  · unfold State.updateRecord
    simp only [if_neg fun h => hn (changeReasons_body.1 h)]
    rfl
  · have hb := changeReasons_body.2 hc
    rw [if_pos hb] at hch
    have hreasons : changeReasons r0 r1 = ⟨true, !r0.inAlert && r1.inAlert, r0.inAlert && !r1.inAlert, false⟩ := by
      rw [← hb]; rfl
    rw [hreasons] at hch
    exact ⟨fun hk => set_notify_none hch hk,
      fun hk => ⟨entryOf_notify_self ho hch hk, fun j hj => entryOf_notify_ne hch hj p⟩⟩

/-- Settles O17: the steps of R26, each on its own block. -/
theorem emptyingASlot : Obligations.EmptyingASlot := by
  intro s i r0 r1 result ho hs
  have hch := State.changed_emptySlot i r0 r1 result s
  refine ⟨?_, fun j hj => ?_, State.freeHoldings_emptySlot r1 result hs, State.freeWaiters_emptySlot r1 result hs,
    fun p => ?_, fun p hw => ?_, fun p hw => ⟨?_, fun j hj => entryOf_notify_ne hch hj p⟩,
    fun x => lineCounts_emptySlot i r0 r1 result x s, State.sameDevice_emptySlot i r0 r1 result s,
    State.emptySlot_rotation i r0 r1 result s, State.emptySlot_mattnReasons i r0 r1 result s⟩
  · rw [State.slot_emptySlot, if_pos rfl]
  · rw [State.slot_emptySlot, if_neg fun h => hj h.symm]
  · have hp : (s.emptySlot i r0 r1 result).port p =
        (s.placeAll (closedResponses r1.body ++ heldResponse r1.held result)).port p := by
      simp [State.port, State.ports_emptySlot]
    rw [hp, State.port_placeAll]
    cases r1.held <;> rfl
  · exact set_notify_none hch (by rw [hw]; rfl)
  · exact entryOf_notify_self ho hch (Reasons.keptBy_ne_empty rfl hw)

/-- Settles O18: the responses go before, and the drain is told by the commitments before and after. -/
theorem lastCommitmentCompletesTheDrain : Obligations.LastCommitmentCompletesTheDrain := by
  refine ⟨fun s i r0 r1 rs => ⟨fun p => State.port_placeAll p rs s, State.placeAll_eq rs s, fun hc h0 h1 => ?_, fun h => ?_⟩,
    fun s i rec hsv hs hc hcom => ?_⟩
  · have hd : drains r0 r1 = true := by simp [drains, hc, h0, h1]
    simp only [State.finishEvent, hd, if_true]
  · have hd : drains r0 r1 = false := by rcases h with h | h | h <;> simp [drains, h]
    simp only [State.finishEvent, hd, Bool.false_eq_true, if_false]
  · have ha : s.tableActive = true := by simp [State.tableActive, hsv.1, hsv.2]
    change Host.Outcome.next (if s.tableActive then s.completeDrain i else s) = _
    rw [if_pos ha, State.completeDrain, hs]
    simp only [hc, hcom, and_self, if_true]

/-- Settles O56: a response that is placed has at most nine data words, and the accesses of the window keep the bounds. -/
theorem portsStayBounded : Obligations.PortsStayBounded := by
  intro s t hs h
  exact step_keeps (P := State.portsBounded) (fun _ _ => portsBounded_event) hs h

/-- Settles O59: without READY no event but a refused submission, a reset and those of the link and the clock comes up, and in
reset none but its end. -/
theorem conditionAndResetHoldTheBlocks : Obligations.ConditionAndResetHoldTheBlocks :=
  ⟨fun _ _ hs h => step_keeps (P := State.idleUnlessReady) (fun _ _ => idleUnlessReady_event) hs h,
    fun _ _ hs h => step_keeps (P := State.heldInReset) (fun _ _ => heldInReset_event) hs h⟩

end Sys2Proof.Proofs
end

section
/-! The entries of the Holding Pool and the Wait Queue (O53): what each event does to the entries that a body uses and to the law
of reservations (R43, R45, R62). -/

namespace Sys2Proof.Machine

/-! ### Reservations -/

/-- The waiters of port `p` in a queue that carry a reservation. -/
def reservedOf (p : Port) (ws : List Waiter) : Nat := ws.countP fun w => w.port == p && w.reserved

theorem reservedOf_pos {p : Port} {ws : List Waiter} :
    0 < reservedOf p ws ↔ ∃ w ∈ ws, w.port = p ∧ w.reserved = true := by
  simp [reservedOf, List.countP_pos_iff]

/-- The reservations of a port are those of its own waiters. -/
theorem reservedOf_congr {p : Port} {ws vs : List Waiter}
    (h : ws.filter (fun w => w.port == p) = vs.filter (fun w => w.port == p)) : reservedOf p ws = reservedOf p vs := by
  have hc := congrArg (List.countP fun w : Waiter => w.reserved) h
  rw [List.countP_filter, List.countP_filter] at hc
  simpa only [reservedOf, Bool.and_comm] using hc

theorem reservedOf_filter_split (p : Port) (q : Waiter → Bool) (ws : List Waiter) :
    reservedOf p ws = reservedOf p (ws.filter q) + reservedOf p (ws.filter fun w => !q w) := by
  unfold reservedOf
  induction ws with
  | nil => rfl
  | cons w ws ih => by_cases hq : q w = true <;> simp [hq, List.countP_cons, ih] <;> omega

/-- The waiters of port `p` in a queue do not depend on the reservation marks. -/
theorem countP_port_of_core {p : Port} {ws vs : List Waiter} (h : ws.map Waiter.core = vs.map Waiter.core) :
    (ws.countP fun w => w.port == p) = vs.countP fun w => w.port == p := by
  have hc := congrArg (List.countP fun c : Port × Tag × Nat × Option Nat => c.1 == p) h
  rw [List.countP_map, List.countP_map] at hc
  exact hc

theorem filter_takeReservation_ne {p q : Port} (h : p ≠ q) (ws : List Waiter) :
    (takeReservation p ws).filter (fun w => w.port == q) = ws.filter (fun w => w.port == q) := by
  unfold takeReservation
  rw [List.filter_reverse, filter_updateFirst, List.filter_reverse, List.reverse_reverse]
  intro x hx
  simp only [Bool.and_eq_true, beq_iff_eq] at hx
  simp [hx.1, h]

/-- One waiter fewer carries a reservation, when one of the port carried one (R73, step 3). -/
theorem reserved_takeReservation (p : Port) (ws : List Waiter) :
    (takeReservation p ws).countP (·.reserved) + (if ws.any (fun w => w.port == p && w.reserved) then 1 else 0) =
      ws.countP (·.reserved) := by
  have h1 := countP_updateFirst (fun w : Waiter => !w.reserved) (fun w => w.port == p && w.reserved)
    (fun w => { w with reserved := false }) ws.reverse (fun x hx => by
      simp only [Bool.and_eq_true, beq_iff_eq] at hx; simp [hx.2])
  have h2 := List.length_eq_countP_add_countP (fun w : Waiter => w.reserved) (l := ws)
  have h3 := List.length_eq_countP_add_countP (fun w : Waiter => w.reserved) (l := takeReservation p ws)
  rw [length_takeReservation] at h3
  simp only [List.countP_reverse, List.any_reverse] at h1
  have h4 : (takeReservation p ws).countP (fun w => !w.reserved) =
      ws.countP (fun w => !w.reserved) + if ws.any (fun w => w.port == p && w.reserved) then 1 else 0 := by
    rw [← h1]; unfold takeReservation; rw [List.countP_reverse]
  simp only [Bool.not_eq_true, Bool.decide_eq_false] at h2 h3
  omega

/-! ### Reservations handed on (R45, R71) -/

theorem handOn_cons (b : Pool) (w : Waiter) (ended rest : List Waiter) :
    handOn b (w :: ended) rest =
      handOn b ended (if w.reserved && !b.lists w.port then giveReservation w.port rest else rest) := rfl

/-- Only where no entry of the port is listed is anything handed on. -/
theorem filter_handOn_listed {b : Pool} {p : Port} (hp : b.lists p = true) (ended rest : List Waiter) :
    (handOn b ended rest).filter (fun w => w.port == p) = rest.filter (fun w => w.port == p) := by
  induction ended generalizing rest with
  | nil => rfl
  | cons w ended ih =>
    rw [handOn_cons, ih]
    split
    next h =>
      simp only [Bool.and_eq_true, Bool.not_eq_true'] at h
      exact filter_giveReservation_ne (fun e => by rw [e, hp] at h; cases h.2) rest
    · rfl

/-- A reservation given to a port that is full of them gets lost. -/
theorem reservedOf_giveReservation (p : Port) (ws : List Waiter) :
    reservedOf p (giveReservation p ws) = min (reservedOf p ws + 1) (ws.countP fun w => w.port == p) := by
  have h1 := reserved_giveReservation_port p ws
  have h2 : (ws.countP fun w => w.port == p) = reservedOf p ws + ws.countP fun w => w.port == p && !w.reserved := by
    unfold reservedOf
    induction ws with
    | nil => rfl
    | cons w ws ih =>
      have := ih (reserved_giveReservation_port p ws)
      cases hr : w.reserved <;> by_cases hp : w.port = p <;> simp [hr, hp] <;> omega
  have h3 : 0 < (ws.countP fun w => w.port == p && !w.reserved) ↔ ws.any (fun w => w.port == p && !w.reserved) = true := by
    rw [List.countP_pos_iff, List.any_eq_true]
  unfold reservedOf at *
  split at h1
  next h => have := h3.2 h; omega
  next h => have := mt h3.1 h; omega

/-- The reservations of a port without a listed entry once those of ended waiters are handed on (R45, R71). -/
theorem reservedOf_handOn {b : Pool} {p : Port} (hp : b.lists p = false) (ended rest : List Waiter) :
    reservedOf p (handOn b ended rest) =
      min (reservedOf p rest + reservedOf p ended) (rest.countP fun w => w.port == p) := by
  induction ended generalizing rest with
  | nil =>
    have : reservedOf p rest ≤ rest.countP fun w => w.port == p :=
      List.countP_mono_left fun w _ hw => (Bool.and_eq_true_iff.1 hw).1
    simp only [handOn, List.foldl_nil]
    rw [show reservedOf p ([] : List Waiter) = 0 from rfl]
    omega
  | cons w ended ih =>
    rw [handOn_cons, ih]
    by_cases hw : w.port = p
    · subst hw
      cases hr : w.reserved with
      | true =>
        have hc := countP_port_of_core (p := w.port) (core_giveReservation w.port rest)
        have h2 : reservedOf w.port (w :: ended) = reservedOf w.port ended + 1 := by simp [reservedOf, hr]
        simp only [hp, Bool.not_false, Bool.and_self, if_true]
        rw [reservedOf_giveReservation, hc, h2]
        omega
      | false =>
        have h2 : reservedOf w.port (w :: ended) = reservedOf w.port ended := by simp [reservedOf, hr]
        simp [h2]
    · have h2 : reservedOf p (w :: ended) = reservedOf p ended := by simp [reservedOf, hw]
      rw [h2]
      split
      · rw [reservedOf_congr (filter_giveReservation_ne hw rest),
          countP_port_of_core (core_giveReservation w.port rest)]
      · rfl

/-- Handing on brings up no reservation that was not there. -/
theorem reserved_handOn_le (b : Pool) (ended rest : List Waiter) :
    (handOn b ended rest).countP (·.reserved) ≤ rest.countP (·.reserved) + ended.countP (·.reserved) := by
  induction ended generalizing rest with
  | nil => exact Nat.le_refl _
  | cons w ended ih =>
    rw [handOn_cons, List.countP_cons]
    refine (ih _).trans ?_
    split
    next h =>
      rw [reserved_giveReservation, (Bool.and_eq_true_iff.1 h).1]
      simp only [if_true]
      split <;> omega
    · omega

/-! ### The law of reservations on a POOL -/

/-- The law of reservations of a POOL, in the reservations of each port (R45). -/
theorem reservationLaw_pool {b : Pool} : (Body.pool b).reservationLaw ↔
    (b.holdings.map (·.port)).Nodup ∧
      ∀ p : Port, (∃ w ∈ b.waiters, w.port = p) → b.lists p = false → 0 < reservedOf p b.waiters := by
  simp only [Body.reservationLaw, reservedOf_pos]

theorem length_addUnits (p : Port) (n : Nat) (hs : List Holding) :
    (addUnits p n hs).length = hs.length + if hs.any (fun h => h.port == p) then 0 else 1 := by
  unfold addUnits; split <;> simp

/-- What an event keeps of a POOL's entries: the law of reservations, and that it uses no more than `more` entries above those it
used. -/
def Pool.keepsEntries (more : Nat) (b b1 : Pool) : Prop :=
  (Body.pool b).reservationLaw → (Body.pool b1).reservationLaw ∧ b1.entriesUsed ≤ more + b.entriesUsed

theorem Pool.keepsEntries_trans {m : Nat} {a b c : Pool} (h : a.keepsEntries m b) (h' : b.keepsEntries 0 c) :
    a.keepsEntries m c := fun ha =>
  ⟨(h' (h ha).1).1, (h' (h ha).1).2.trans (by have := (h ha).2; omega)⟩

/-- A grant takes the entry that the port has listed, or a reservation of the port (R73, step 3). -/
theorem Pool.keepsEntries_grantHead {b : Pool} {w : Waiter} {rest : List Waiter} (hw : b.waiters = w :: rest) :
    b.keepsEntries 0 (b.grantHead w rest) := by
  intro hlaw
  obtain ⟨hn, hr⟩ := reservationLaw_pool.1 hlaw
  have hws : (b.grantHead w rest).waiters =
      if b.lists w.port || w.reserved then rest else takeReservation w.port rest := rfl
  constructor
  · refine reservationLaw_pool.2 ⟨nodup_addUnits hn, fun q hq hl => ?_⟩
    rw [lists_grantHead, Bool.or_eq_false_iff, beq_eq_false_iff_ne] at hl
    have hq' : ∃ v ∈ b.waiters, v.port = q := by
      refine exists_waiter_of_who (fun x hx => ?_) hq
      rw [who_of_core (core_grantHead w rest b)] at hx
      rw [hw]; exact List.mem_cons_of_mem _ hx
    have h1 := hr q hq' hl.1
    rw [hw, show reservedOf q (w :: rest) = reservedOf q rest by simp [reservedOf, hl.2]] at h1
    rw [hws]
    split
    · exact h1
    · rwa [reservedOf_congr (filter_takeReservation_ne hl.2 rest)]
  · have h1 : (b.grantHead w rest).holdings.length = b.holdings.length + if b.lists w.port then 0 else 1 :=
      length_addUnits _ _ _
    unfold Pool.entriesUsed
    rw [h1, hws, hw, List.countP_cons]
    cases hl : b.lists w.port with
    | true => simp only [Bool.true_or, if_true]; omega
    | false =>
      cases hv : w.reserved with
      | true => simp; omega
      | false =>
        have h2 := hr w.port ⟨w, by rw [hw]; exact List.mem_cons_self, rfl⟩ hl
        rw [hw, show reservedOf w.port (w :: rest) = reservedOf w.port rest by simp [reservedOf, hv], reservedOf_pos] at h2
        obtain ⟨v, hvm, hvp, hvr⟩ := h2
        have h3 := reserved_takeReservation w.port rest
        rw [if_pos (List.any_eq_true.2 ⟨v, hvm, by simp [hvp, hvr]⟩)] at h3
        simp only [Bool.or_false, Bool.false_eq_true, if_false]
        omega

theorem Pool.keepsEntries_cascade (b : Pool) : b.keepsEntries 0 b.cascade.1 := fun hlaw =>
  cascade_induction
    (P := fun c => (Body.pool c).reservationLaw ∧ c.entriesUsed ≤ 0 + b.entriesUsed)
    (fun _ _ _ h hw _ => by
      obtain ⟨hl, hu⟩ := Pool.keepsEntries_grantHead hw h.1
      exact ⟨hl, by omega⟩) b ⟨hlaw, by omega⟩

/-- The reservations of ended waiters are freed or handed on (R71). -/
theorem Pool.keepsEntries_endWaiters (q : Waiter → Bool) (b : Pool) : b.keepsEntries 0 (b.endWaiters q) := by
  intro hlaw
  obtain ⟨hn, hr⟩ := reservationLaw_pool.1 hlaw
  constructor
  · refine reservationLaw_pool.2 ⟨hn, fun p hp hl => ?_⟩
    have h1 := hr p (exists_waiter_endWaiters hp) hl
    rw [reservedOf_filter_split p q] at h1
    have h2 := reservedOf_handOn (b := b) hl (b.waiters.filter q) (b.waiters.filter fun w => !q w)
    have h3 : 0 < (b.endWaiters q).waiters.countP fun w => w.port == p := by
      rw [List.countP_pos_iff]; simpa using hp
    rw [countP_port_of_core (core_endWaiters q b)] at h3
    show 0 < reservedOf p (handOn b (b.waiters.filter q) (b.waiters.filter fun w => !q w))
    rw [h2, Nat.lt_min]
    exact ⟨by omega, h3⟩
  · have h1 := reserved_handOn_le b (b.waiters.filter q) (b.waiters.filter fun w => !q w)
    have h2 : b.waiters.countP (·.reserved) =
        (b.waiters.filter q).countP (·.reserved) + (b.waiters.filter fun w => !q w).countP (·.reserved) := by
      rw [List.countP_eq_countP_filter_add b.waiters (·.reserved) q]
    show b.holdings.length + (handOn b _ _).countP _ ≤ 0 + (b.holdings.length + _)
    omega

/-- Units given back free an entry, or make it a reservation (R45, R52). -/
theorem Pool.keepsEntries_giveBack {p : Port} {b : Pool} (n : Nat) (hp : b.lists p = true) :
    b.keepsEntries 0 (b.giveBack p n) := by
  intro hlaw
  obtain ⟨hn, hr⟩ := reservationLaw_pool.1 hlaw
  rcases Nat.lt_or_ge n (b.unitsOf p) with h | h
  · have hports := Pool.ports_giveBack_part h
    have hlists : ∀ q, (b.giveBack p n).lists q = b.lists q := fun q => by
      rw [Bool.eq_iff_iff, lists_iff, lists_iff, hports]
    constructor
    · refine reservationLaw_pool.2 ⟨hports ▸ hn, fun q hq hl => ?_⟩
      rw [(Pool.giveBack_part h).2] at hq ⊢
      exact hr q hq (hlists q ▸ hl)
    · have := congrArg List.length hports
      simp only [List.length_map] at this
      unfold Pool.entriesUsed
      rw [(Pool.giveBack_part h).2, this]
      omega
  · obtain ⟨hh, hw⟩ := Pool.giveBack_whole h
    have hcount := reserved_giveReservation p b.waiters
    have hlen : (b.giveBack p n).holdings.length < b.holdings.length := by
      rw [hh, List.length_filter_lt_length_iff_exists]
      obtain ⟨x, hx, hxp⟩ := List.any_eq_true.1 hp
      exact ⟨x, hx, by simpa using hxp⟩
    have hlists : ∀ q, q ≠ p → (b.giveBack p n).lists q = b.lists q := fun q hq => by
      rw [Bool.eq_iff_iff, lists_iff, lists_iff, hh]
      simp only [List.mem_map, List.mem_filter, bne_iff_ne]
      exact ⟨fun ⟨x, hx, hxq⟩ => ⟨x, hx.1, hxq⟩, fun ⟨x, hx, hxq⟩ => ⟨x, ⟨hx, hxq ▸ hq⟩, hxq⟩⟩
    constructor
    · refine reservationLaw_pool.2 ⟨hh ▸ (List.filter_sublist.map _).nodup hn, fun q hq hl => ?_⟩
      have hq' : ∃ v ∈ b.waiters, v.port = q :=
        exists_waiter_of_who (by simp [who_of_core (Pool.core_giveBack p n b)]) hq
      rw [hw]
      by_cases hqp : q = p
      · subst hqp
        split
        next ha => rw [reservedOf_pos]; simpa using ha
        · rw [reservedOf_giveReservation, Nat.lt_min]
          refine ⟨Nat.succ_pos _, ?_⟩
          rw [List.countP_pos_iff]; simpa using hq'
      · have h1 := hr q hq' (hlists q hqp ▸ hl)
        split
        · exact h1
        · rwa [reservedOf_congr (filter_giveReservation_ne (Ne.symm hqp) _)]
    · unfold Pool.entriesUsed
      rw [hw]
      split
      · omega
      · rw [hcount]; split <;> omega

theorem PoolEvent.keepsEntries {free : Nat} {taker : Option Port} {b b1 : Pool} {rs : List (Port × Response)}
    (he : PoolEvent free taker b b1 rs) : b.keepsEntries free b1 := by
  have hweak : ∀ c : Pool, b.keepsEntries 0 c → b.keepsEntries free c := fun c h hb =>
    ⟨(h hb).1, (h hb).2.trans (by omega)⟩
  cases he with
  | same => exact fun h => ⟨h, by omega⟩
  | limits => exact fun h => ⟨h, by show b.entriesUsed ≤ _; omega⟩
  | @take p n _ _ hw _ hf =>
    intro hlaw
    obtain ⟨hn, -⟩ := reservationLaw_pool.1 hlaw
    refine ⟨reservationLaw_pool.2 ⟨nodup_addUnits hn, fun q ⟨v, hv, _⟩ => ?_⟩, ?_⟩
    · rw [show (b.take p n).waiters = b.waiters from rfl, hw] at hv; cases hv
    · have h1 : (b.take p n).holdings.length = b.holdings.length + if b.lists p then 0 else 1 := length_addUnits _ _ _
      unfold Pool.entriesUsed
      rw [h1, show (b.take p n).waiters = b.waiters from rfl]
      rcases hf with hf | hf
      · rw [hf]; simp only [if_true]; omega
      · split <;> omega
  | release hp => exact hweak _ (Pool.keepsEntries_trans (Pool.keepsEntries_giveBack _ hp) (Pool.keepsEntries_cascade _))
  | raise => exact hweak _ fun h => Pool.keepsEntries_cascade _ h
  | @lower n _ =>
    exact hweak _ fun h => Pool.keepsEntries_trans
      (Pool.keepsEntries_endWaiters (aboveStock (b.stock - n)) { b with stock := b.stock - n, level := b.level - n })
      (Pool.keepsEntries_cascade _) h
  | grant hw => exact hweak _ (Pool.keepsEntries_grantHead hw)
  | ended q =>
    refine hweak _ ?_
    unfold Pool.endAndCascade
    split
    · exact Pool.keepsEntries_trans (Pool.keepsEntries_endWaiters _ _) (Pool.keepsEntries_cascade _)
    · exact Pool.keepsEntries_endWaiters _ _

/-- What an event keeps of a body's entries. -/
theorem BodyEvent.keepsEntries {free : Nat} {taker : Option Port} {x y : Body} {rs : List (Port × Response)}
    (he : BodyEvent free taker x y rs) (hl : x.reservationLaw) :
    y.reservationLaw ∧ y.entriesUsed ≤ free + x.entriesUsed := by
  cases he with
  | pool h => exact h.keepsEntries hl
  | counter | flags | sequence => exact ⟨hl, Nat.zero_le _⟩

/-- An event answers the waiters it ends, one for one (R12). -/
theorem BodyEvent.waiters_length {free : Nat} {taker : Option Port} {x y : Body} {rs : List (Port × Response)}
    (he : BodyEvent free taker x y rs) : y.waiters.length + rs.length = x.waiters.length := by
  have := he.who.length_eq
  simp only [List.length_append, List.length_map] at this
  omega

/-! ### The free entries and those in use -/

/-- The holding entries of the part, free and in use (R43). -/
def State.holdingTotal (s : State) : Nat := s.freeHoldings + (s.slots.toList.map SlotState.entriesUsed).sum

/-- The waiter entries of the part, free and in use (R62). -/
def State.waiterTotal (s : State) : Nat := s.freeWaiters + (s.slots.toList.map fun x => x.waiters.length).sum

theorem State.holdingTotal_congr {s t : State} (hs : t.slots = s.slots) (hf : t.freeHoldings = s.freeHoldings) :
    t.holdingTotal = s.holdingTotal := by unfold State.holdingTotal; rw [hs, hf]

theorem State.waiterTotal_congr {s t : State} (hs : t.slots = s.slots) (hf : t.freeWaiters = s.freeWaiters) :
    t.waiterTotal = s.waiterTotal := by unfold State.waiterTotal; rw [hs, hf]

/-- The slots after an event on a record: the record stays, or the drain empties its slot. -/
theorem State.slots_finishEvent (i : Slot) (r0 r1 : Record) (rs : List (Port × Response)) (s : State) :
    (s.finishEvent i r0 r1 rs).slots = s.slots.set i.val
      (if drains r0 r1 then ⟨(s.slot i).gen + 1, none⟩ else ⟨(s.slot i).gen, some r1⟩) := by
  unfold State.finishEvent
  dsimp only
  split
  · simp [State.slots_emptySlot]
  · simp [State.slots_updateRecord]

theorem State.freeHoldings_finishEvent {i : Slot} {r0 : Record} (r1 : Record) (rs : List (Port × Response)) {s : State}
    (hs : (s.slot i).record = some r0) : (s.finishEvent i r0 r1 rs).freeHoldings =
      s.freeHoldings + r0.body.entriesUsed - if drains r0 r1 then 0 else r1.body.entriesUsed := by
  have hs' : ((s.placeAll rs).slot i).record = some r0 := by simpa using hs
  unfold State.finishEvent
  dsimp only
  split
  · simp [State.freeHoldings_emptySlot r1 .done hs']
  · simp [State.freeHoldings_updateRecord, State.freeHoldings_writeRecord r1 hs']

theorem State.freeWaiters_finishEvent {i : Slot} {r0 : Record} (r1 : Record) (rs : List (Port × Response)) {s : State}
    (hs : (s.slot i).record = some r0) : (s.finishEvent i r0 r1 rs).freeWaiters =
      s.freeWaiters + r0.body.waiters.length - if drains r0 r1 then 0 else r1.body.waiters.length := by
  have hs' : ((s.placeAll rs).slot i).record = some r0 := by simpa using hs
  unfold State.finishEvent
  dsimp only
  split
  · simp [State.freeWaiters_emptySlot r1 .done hs']
  · simp [State.freeWaiters_updateRecord, State.freeWaiters_writeRecord r1 hs']

theorem entriesUsed_of_record {x : SlotState} {r : Record} (h : x.record = some r) : x.entriesUsed = r.body.entriesUsed := by
  simp [SlotState.entriesUsed, h]

theorem waiters_of_record {x : SlotState} {r : Record} (h : x.record = some r) : x.waiters = r.body.waiters := by
  simp [SlotState.waiters, h]

theorem State.holdingTotal_finishEvent {i : Slot} {r0 r1 : Record} {rs : List (Port × Response)} {s : State}
    (hs : (s.slot i).record = some r0) (hu : r1.body.entriesUsed ≤ s.freeHoldings + r0.body.entriesUsed) :
    (s.finishEvent i r0 r1 rs).holdingTotal = s.holdingTotal := by
  have hsum := sum_slots_set SlotState.entriesUsed s i
    (if drains r0 r1 then ⟨(s.slot i).gen + 1, none⟩ else ⟨(s.slot i).gen, some r1⟩)
  rw [entriesUsed_of_record hs] at hsum
  unfold State.holdingTotal
  rw [State.slots_finishEvent, State.freeHoldings_finishEvent r1 rs hs]
  split at hsum <;> simp_all [SlotState.entriesUsed] <;> omega

theorem State.waiterTotal_finishEvent {i : Slot} {r0 r1 : Record} {rs : List (Port × Response)} {s : State}
    (hs : (s.slot i).record = some r0) (hw : r1.body.waiters.length ≤ s.freeWaiters + r0.body.waiters.length) :
    (s.finishEvent i r0 r1 rs).waiterTotal = s.waiterTotal := by
  have hsum := sum_slots_set (fun x => x.waiters.length) s i
    (if drains r0 r1 then ⟨(s.slot i).gen + 1, none⟩ else ⟨(s.slot i).gen, some r1⟩)
  rw [waiters_of_record hs] at hsum
  unfold State.waiterTotal
  rw [State.slots_finishEvent, State.freeWaiters_finishEvent r1 rs hs]
  split at hsum <;> simp_all [SlotState.waiters] <;> omega

theorem entriesAccounted_iff {s : State} : s.entriesAccounted ↔
    s.holdingTotal = 384 ∧ s.waiterTotal = 24 ∧ s.everyRecord fun r => r.body.reservationLaw := Iff.rfl

theorem State.everyRecord_congr {P : Record → Prop} {s t : State} (hs : t.slots = s.slots) (h : s.everyRecord P) :
    t.everyRecord P := by
  intro i r hr
  exact h i r (by rwa [show t.slot i = s.slot i by simp [State.slot, hs]] at hr)

theorem State.entriesAccounted_congr {s t : State} (hs : t.slots = s.slots) (hf : t.freeHoldings = s.freeHoldings)
    (hw : t.freeWaiters = s.freeWaiters) (h : s.entriesAccounted) : t.entriesAccounted := by
  obtain ⟨h1, h2, h3⟩ := entriesAccounted_iff.1 h
  exact entriesAccounted_iff.2 ⟨(State.holdingTotal_congr hs hf).trans h1, (State.waiterTotal_congr hs hw).trans h2,
    State.everyRecord_congr hs h3⟩

theorem State.everyRecord_finishEvent {P : Record → Prop} {i : Slot} {r0 r1 : Record} {rs : List (Port × Response)}
    {s : State} (h1 : P r1) (h : s.everyRecord P) : (s.finishEvent i r0 r1 rs).everyRecord P := by
  intro j r hr
  rw [State.slot_finishEvent] at hr
  split at hr
  · split at hr
    · cases hr
    · cases hr; exact h1
  · exact h j r hr

/-- An event on a record keeps the entries, when its body finds the entries it uses. -/
theorem State.entriesAccounted_finishEvent {i : Slot} {r0 r1 : Record} {rs : List (Port × Response)} {s : State}
    (hs : (s.slot i).record = some r0)
    (hb : r0.body.reservationLaw →
      r1.body.reservationLaw ∧ r1.body.entriesUsed ≤ s.freeHoldings + r0.body.entriesUsed)
    (hw : r1.body.waiters.length ≤ s.freeWaiters + r0.body.waiters.length) (h : s.entriesAccounted) :
    (s.finishEvent i r0 r1 rs).entriesAccounted := by
  obtain ⟨h1, h2, h3⟩ := entriesAccounted_iff.1 h
  obtain ⟨hl, hu⟩ := hb (h3 i r0 hs)
  exact entriesAccounted_iff.2 ⟨(State.holdingTotal_finishEvent hs hu).trans h1,
    (State.waiterTotal_finishEvent hs hw).trans h2, State.everyRecord_finishEvent hl h3⟩

theorem State.entriesAccounted_body {i : Slot} {rec r1 : Record} {rs rs' : List (Port × Response)} {taker : Option Port}
    {s : State} (hs : (s.slot i).record = some rec) (hb : BodyEvent s.freeHoldings taker rec.body r1.body rs)
    (h : s.entriesAccounted) : (s.finishEvent i rec r1 rs').entriesAccounted :=
  State.entriesAccounted_finishEvent hs hb.keepsEntries (by have := hb.waiters_length; omega) h

theorem State.entriesAccounted_emptySlot {i : Slot} {r0 r1 : Record} {c : ResultCode} {s : State}
    (hs : (s.slot i).record = some r0) (h : s.entriesAccounted) : (s.emptySlot i r0 r1 c).entriesAccounted := by
  obtain ⟨h1, h2, h3⟩ := h
  have hu := sum_slots_set SlotState.entriesUsed s i ⟨(s.slot i).gen + 1, none⟩
  have hw := sum_slots_set (fun x => x.waiters.length) s i ⟨(s.slot i).gen + 1, none⟩
  rw [entriesUsed_of_record hs, show SlotState.entriesUsed ⟨(s.slot i).gen + 1, none⟩ = 0 from rfl] at hu
  simp only [waiters_of_record hs, show SlotState.waiters ⟨(s.slot i).gen + 1, none⟩ = [] from rfl] at hw
  refine ⟨?_, ?_, fun j r hr => ?_⟩
  · rw [State.slots_emptySlot, State.freeHoldings_emptySlot r1 c hs]; omega
  · rw [State.slots_emptySlot, State.freeWaiters_emptySlot r1 c hs]; simp only [List.length_nil] at hw; omega
  · rw [State.slot_emptySlot] at hr
    split at hr
    · cases hr
    · exact h3 j r hr

/-- A record is written that uses what the record before it used, or none in an EMPTY slot. -/
theorem State.entriesAccounted_writeRecord {i : Slot} {r : Record} {s : State}
    (hu : r.body.entriesUsed = (s.slot i).entriesUsed) (hw : r.body.waiters.length = (s.slot i).waiters.length)
    (hl : s.everyRecord (fun r => r.body.reservationLaw) → r.body.reservationLaw) (h : s.entriesAccounted) :
    (s.writeRecord i r).entriesAccounted := by
  obtain ⟨h1, h2, h3⟩ := h
  have h4 := sum_slots_set SlotState.entriesUsed s i ⟨(s.slot i).gen, some r⟩
  have h5 := sum_slots_set (fun x => x.waiters.length) s i ⟨(s.slot i).gen, some r⟩
  rw [show SlotState.entriesUsed ⟨(s.slot i).gen, some r⟩ = r.body.entriesUsed from rfl] at h4
  simp only [show SlotState.waiters ⟨(s.slot i).gen, some r⟩ = r.body.waiters from rfl] at h5
  refine ⟨?_, ?_, fun j x hx => ?_⟩
  · show s.freeHoldings + (s.slot i).entriesUsed - r.body.entriesUsed + _ = _
    rw [State.slots_writeRecord]; omega
  · show s.freeWaiters + (s.slot i).waiters.length - r.body.waiters.length + _ = _
    rw [State.slots_writeRecord]; omega
  · rw [State.slot_writeRecord] at hx
    split at hx
    · cases hx; exact hl h3
    · exact h3 j x hx

theorem State.entriesAccounted_header {i : Slot} {r0 r1 : Record} {s : State} (hs : (s.slot i).record = some r0)
    (hb : r1.body = r0.body) (h : s.entriesAccounted) : (s.writeRecord i r1).entriesAccounted :=
  State.entriesAccounted_writeRecord (by rw [entriesUsed_of_record hs, hb]) (by rw [waiters_of_record hs, hb])
    (fun hl => hb ▸ hl i r0 hs) h

/-! ### Each event keeps the entries -/

/-- A waiter queued carries a reservation when its port has no listed entry (R68). -/
theorem keepsEntries_queue {b : Pool} {n timeout : Nat} {p : Port} {r : Request} {free : Nat}
    (hf : b.lists p = true ∨ free ≠ 0) :
    b.keepsEntries free { b with waiters := b.waiters ++ [newWaiter b n timeout p r] } := by
  intro hlaw
  obtain ⟨hn, hr⟩ := reservationLaw_pool.1 hlaw
  have hcount : ∀ q, reservedOf q (b.waiters ++ [newWaiter b n timeout p r]) =
      reservedOf q b.waiters + if p = q ∧ b.lists p = false then 1 else 0 := fun q => by
    simp [reservedOf, List.countP_append, newWaiter, List.countP_singleton]
  constructor
  · refine reservationLaw_pool.2 ⟨hn, fun q ⟨v, hv, hvq⟩ hl => ?_⟩
    change 0 < reservedOf q (b.waiters ++ [_])
    rw [hcount]
    rcases List.mem_append.1 hv with hv | hv
    · have := hr q ⟨v, hv, hvq⟩ hl; omega
    · rw [List.mem_singleton.1 hv] at hvq
      have hpq : p = q := hvq
      subst hpq
      simp [show b.lists p = false from hl]
  · show b.holdings.length + (b.waiters ++ [newWaiter b n timeout p r]).countP _ ≤ free + (b.holdings.length + _)
    rw [List.countP_append, List.countP_singleton]
    rcases hf with hf | hf
    · simp [newWaiter, hf]
    · split <;> omega

theorem entriesUsed_withoutWaiters (b : Body) : b.withoutWaiters.entriesUsed ≤ b.entriesUsed := by
  cases b with
  | pool b => exact Nat.add_le_add_left (Nat.zero_le _) _
  | _ => exact Nat.le_refl _

theorem reservationLaw_withoutWaiters {b : Body} (h : b.reservationLaw) : b.withoutWaiters.reservationLaw := by
  cases b with
  | pool b => exact ⟨h.1, fun p ⟨v, hv, _⟩ => by cases hv⟩
  | _ => exact h

/-- A new record uses no entry (R15). -/
theorem entries_createBody {q : Request} {body : Body} (h : createBody q = some body) :
    body.entriesUsed = 0 ∧ body.reservationLaw := by
  unfold createBody createPool createCounter createFlags createSequence at h
  dsimp only at h
  repeat' split at h
  all_goals cases h
  all_goals exact ⟨rfl, by simp [Body.reservationLaw]⟩

theorem State.entriesAccounted_reply {p : Port} {r : Request} {c : ResultCode} {d : List Word} {s : State}
    (h : s.entriesAccounted) : (s.reply p r c d).entriesAccounted :=
  State.entriesAccounted_congr (by simp) (by simp) (by simp) h

theorem RequestEffect.entriesAccounted {c : ReqCode} {p : Port} {r : Request} {u t : State}
    (he : RequestEffect c p r u t) (h : u.entriesAccounted) : t.entriesAccounted := by
  cases he with
  | reply | exhausted | notice => exact State.entriesAccounted_congr (by simp) (by simp) (by simp) h
  | body _ _ hs hb => exact State.entriesAccounted_body hs hb h
  | @queue rec b n timeout hs hb _ _ _ _ _ hw hf =>
    refine State.entriesAccounted_finishEvent hs (fun hl => ?_) ?_ h
    · rw [hb] at hl ⊢
      exact keepsEntries_queue hf hl
    show (b.waiters ++ [_]).length ≤ _
    rw [hb, List.length_append, List.length_singleton]
    show _ ≤ _ + b.waiters.length
    omega
  | hold hs =>
    exact State.entriesAccounted_finishEvent hs
      (fun hl => ⟨reservationLaw_withoutWaiters hl, (entriesUsed_withoutWaiters _).trans (Nat.le_add_left _ _)⟩)
      (by simp [waiters_withoutWaiters]) h
  | retire hs => exact State.entriesAccounted_reply (State.entriesAccounted_emptySlot hs h)
  | own hs | watch _ hs => exact State.entriesAccounted_reply (State.entriesAccounted_header hs rfl h)
  | @assign rec line hs =>
    refine State.entriesAccounted_reply (State.entriesAccounted_header (r0 := rec) (by simpa using hs) rfl ?_)
    exact State.entriesAccounted_congr (by simp) (by simp) (by simp) h
  | @create i _ hc hb hk he =>
    have hn : (u.slot i).record = none := by simpa using List.find?_some he
    obtain ⟨h1, h2⟩ := entries_createBody hb
    refine State.entriesAccounted_reply (State.entriesAccounted_writeRecord ?_ ?_ (fun _ => h2) h)
    · simp [newRecord, h1, SlotState.entriesUsed, hn]
    · simp [newRecord, waiters_createBody hb, SlotState.waiters, hn]

/-- What each slot uses as before is in use as before. -/
theorem State.entriesAccounted_map {f : SlotState → SlotState} {s t : State} (ht : t.slots = s.slots.map f)
    (hh : t.freeHoldings = s.freeHoldings) (hw : t.freeWaiters = s.freeWaiters)
    (hu : ∀ x, (f x).entriesUsed = x.entriesUsed) (hl : ∀ x, (f x).waiters.length = x.waiters.length)
    (hr : ∀ x r, (f x).record = some r → ∃ r0, x.record = some r0 ∧ (r0.body.reservationLaw → r.body.reservationLaw))
    (h : s.entriesAccounted) : t.entriesAccounted := by
  obtain ⟨h1, h2, h3⟩ := h
  refine ⟨?_, ?_, fun i r hr' => ?_⟩
  · rw [hh, ht, Vector.toList_map, List.map_map, show SlotState.entriesUsed ∘ f = SlotState.entriesUsed from funext hu]
    exact h1
  · rw [hw, ht, Vector.toList_map, List.map_map,
      show (fun x : SlotState => x.waiters.length) ∘ f = fun x => x.waiters.length from funext hl]
    exact h2
  · rw [show t.slot i = f (s.slot i) by simp [State.slot, ht]] at hr'
    obtain ⟨r0, h0, himp⟩ := hr _ _ hr'
    exact himp (h3 i r0 h0)

theorem reservationLaw_countDown {b : Body} (h : b.reservationLaw) : b.countDown.reservationLaw := by
  cases b with
  | pool b =>
    refine ⟨h.1, fun p ⟨v, hv, hvp⟩ hl => ?_⟩
    obtain ⟨w, hw, rfl⟩ := List.mem_map.1 hv
    obtain ⟨x, hx, hxp, hxr⟩ := h.2 p ⟨w, hw, hvp⟩ hl
    exact ⟨x.countDown, List.mem_map_of_mem hx, hxp, hxr⟩
  | _ => exact h

theorem entriesUsed_countDown (b : Body) : b.countDown.entriesUsed = b.entriesUsed := by
  cases b with
  | pool b =>
    show b.holdings.length + (b.waiters.map Waiter.countDown).countP _ = _
    rw [List.countP_map]
    rfl
  | _ => rfl

theorem length_waiters_countDown (b : Body) : b.countDown.waiters.length = b.waiters.length := by
  cases b with
  | pool b => exact List.length_map _
  | _ => rfl

theorem State.slots_enterDraining (p : Port) (s : State) : (s.enterDraining p).slots =
    ((s.modifyPort p (PortState.cleared .draining)).dropWaiters p).slots.map (SlotState.forget p) := by
  simp only [State.enterDraining]

theorem State.freeHoldings_enterDraining (p : Port) (s : State) : (s.enterDraining p).freeHoldings =
    ((s.modifyPort p (PortState.cleared .draining)).dropWaiters p).freeHoldings := by
  simp only [State.enterDraining]

theorem State.freeWaiters_enterDraining (p : Port) (s : State) : (s.enterDraining p).freeWaiters =
    ((s.modifyPort p (PortState.cleared .draining)).dropWaiters p).freeWaiters := by
  simp only [State.enterDraining]

theorem State.entriesAccounted_enterDraining (p : Port) {s : State} (h : s.entriesAccounted) :
    (s.enterDraining p).entriesAccounted := by
  have h1 : ((s.modifyPort p (PortState.cleared .draining)).dropWaiters p).entriesAccounted :=
    State.dropWaiters_induction (P := State.entriesAccounted) (fun u i rec b hu hr hb _ => by
      refine State.entriesAccounted_finishEvent hr (fun hl => ?_) ?_ hu
      · have hk := Pool.keepsEntries_trans (Pool.keepsEntries_endWaiters (ofPort p) b) (Pool.keepsEntries_cascade _)
        obtain ⟨h2, h3⟩ := hk (hb ▸ hl)
        rw [hb]
        exact ⟨h2, h3.trans (by show 0 + b.entriesUsed ≤ _ + b.entriesUsed; omega)⟩
      · have h2 := (core_cascade (b.endWaiters (ofPort p))).length_le
        have h3 := congrArg List.length (core_endWaiters (ofPort p) b)
        have h4 := List.length_filter_le (fun w => !ofPort p w) b.waiters
        simp only [List.length_map] at h2 h3
        rw [hb]
        show (b.endWaiters (ofPort p)).cascade.1.waiters.length ≤ u.freeWaiters + b.waiters.length
        omega) (State.entriesAccounted_congr rfl rfl rfl h)
  refine State.entriesAccounted_map (f := SlotState.forget p) (State.slots_enterDraining p s)
    (State.freeHoldings_enterDraining p s) (State.freeWaiters_enterDraining p s) ?_ ?_ ?_ h1
  · rintro ⟨g, _ | r⟩ <;> rfl
  · rintro ⟨g, _ | r⟩ <;> rfl
  · rintro ⟨g, _ | r⟩ r1 h2
    · cases h2
    · cases h2; exact ⟨r, rfl, id⟩

theorem entriesAccounted_reset {s : State} (hs : s.slots = Vector.replicate 256 SlotState.reset) (hh : s.freeHoldings = 384)
    (hw : s.freeWaiters = 24) : s.entriesAccounted := by
  refine ⟨?_, ?_, fun i r hr => ?_⟩
  · rw [hs, hh, Vector.toList_replicate, List.map_replicate,
      show SlotState.entriesUsed SlotState.reset = 0 from rfl, List.sum_replicate, smul_zero, Nat.add_zero]
  · rw [hs, hw, Vector.toList_replicate, List.map_replicate,
      show SlotState.reset.waiters.length = 0 from rfl, List.sum_replicate, smul_zero, Nat.add_zero]
  · rw [State.slot, hs] at hr
    simp [SlotState.reset] at hr

theorem entriesAccounted_event {s t : State} (h : s.entriesAccounted) (he : Event s t) : t.entriesAccounted := by
  cases he with
  | device hd =>
    obtain ⟨-, hs, hh, hw, -⟩ := hd
    exact State.entriesAccounted_congr hs hh hw h
  | deviceReset a => exact entriesAccounted_reset rfl rfl rfl
  | act hr ha =>
    cases ha with
    | endSelfCheck =>
      unfold State.endSelfCheck
      split <;> exact entriesAccounted_reset rfl rfl rfl
    | request _ he => exact he.entriesAccounted (State.entriesAccounted_congr rfl rfl rfl h)
    | body hs hb => exact State.entriesAccounted_body hs hb h
    | empty _ hs => exact State.entriesAccounted_emptySlot hs h
    | countDown =>
      refine State.entriesAccounted_map (f := SlotState.countDown) rfl rfl rfl ?_ ?_ ?_ h
      · rintro ⟨g, _ | r⟩
        · rfl
        · exact entriesUsed_countDown r.body
      · rintro ⟨g, _ | r⟩
        · rfl
        · exact length_waiters_countDown r.body
      · rintro ⟨g, _ | r⟩ r1 h2
        · cases h2
        · cases h2; exact ⟨r, rfl, reservationLaw_countDown⟩
    | enterDraining => exact State.entriesAccounted_enterDraining _ h
    | @walk p _ =>
      have h1 : (s.reclaimSlot p (Fin.ofNat 256 s.cursors[p.val])).entriesAccounted := by
        unfold State.reclaimSlot
        split
        · exact h
        next r hs => exact State.entriesAccounted_body hs (bodyEvent_reclaim _ none p r.body) h
      unfold State.advanceCursor
      dsimp only
      split <;> exact State.entriesAccounted_congr rfl rfl rfl h1
    | _ => exact State.entriesAccounted_congr (by simp) (by simp) (by simp) h

end Sys2Proof.Machine

namespace Sys2Proof.Proofs

open Sys2Proof.Machine

/-- Settles O53: every event finds the entries that its body takes, and hands on or frees those that it gives up. -/
theorem entriesStayAccounted : Obligations.EntriesStayAccounted := by
  refine ⟨fun x => ?_, fun body => ?_, fun s t hs h =>
    step_keeps (P := State.entriesAccounted) (fun s _ hs he => entriesAccounted_event hs he) hs h⟩
  · obtain ⟨g, _ | r⟩ := x <;> exact ⟨rfl, rfl⟩
  · cases body with
    | pool b => exact ⟨by rw [← List.countP_eq_length_filter]; rfl, rfl⟩
    | _ => exact ⟨rfl, rfl⟩

end Sys2Proof.Proofs
end

section
/-! Ports that are OFFLINE or DRAINING (O57): what each event leaves alone of a port that has withdrawn, and what the entry into
DRAINING and the walk take from it (R135, R158, R163). -/

namespace Sys2Proof.Machine

/-- The port is OFFLINE or DRAINING. -/
def State.gone (s : State) (p : Port) : Prop := (s.port p).mode = .offline ∨ (s.port p).mode = .draining

/-- The law of withdrawn ports for one port. -/
def State.withdrawnAt (p : Port) (s : State) : Prop :=
  (s.gone p → (s.port p).intake = [] ∧ (s.port p).outstanding = [] ∧ (s.port p).responses = [] ∧ s.changed[p.val] = [] ∧
    s.everyRecord (Record.quietFor p)) ∧
  ((s.port p).mode = .offline → s.everyRecord (Record.freeOf p)) ∧
  ((s.port p).mode = .draining → s.cursors[p.val] < 256 ∧
    ∀ (i : Slot) (r : Record), i.val < s.cursors[p.val] → (s.slot i).record = some r → r.freeOf p)

theorem withdrawn_iff {s : State} : s.withdrawn ↔ ∀ p, s.withdrawnAt p := Iff.rfl

theorem State.not_gone {s : State} {p : Port} (h : (s.port p).mode = .online ∨ (s.port p).mode = .fenced) : ¬s.gone p := by
  rintro (h1 | h1) <;> rw [h1] at h <;> rcases h with h | h <;> cases h

theorem State.withdrawnAt_of_not_gone {s : State} {p : Port} (h : ¬s.gone p) : s.withdrawnAt p :=
  ⟨fun h1 => absurd h1 h, fun h1 => absurd (.inl h1) h, fun h1 => absurd (.inr h1) h⟩

/-- What keeps the law for a port that an event does not act for: while the port is gone, its own state and its changed set are
as they were, and each record is quiet for it, and free of it where the record before in its slot was. -/
structure State.sparesPort (p : Port) (s t : State) : Prop where
  mode : (t.port p).mode = (s.port p).mode
  cursor : t.cursors[p.val] = s.cursors[p.val]
  port : s.gone p → s.everyRecord (Record.quietFor p) →
    (t.port p).intake = (s.port p).intake ∧ (t.port p).outstanding = (s.port p).outstanding ∧
    (t.port p).responses = (s.port p).responses ∧ t.changed[p.val] = s.changed[p.val]
  record : s.gone p → s.everyRecord (Record.quietFor p) → ∀ (j : Slot) (r : Record), (t.slot j).record = some r →
    r.quietFor p ∧ ((∀ r0, (s.slot j).record = some r0 → r0.freeOf p) → r.freeOf p)

theorem State.sparesPort.withdrawnAt {p : Port} {s t : State} (h : State.sparesPort p s t) (hs : s.withdrawnAt p) :
    t.withdrawnAt p := by
  obtain ⟨h1, h2, h3⟩ := hs
  have hgone : t.gone p → s.gone p := by unfold State.gone; rw [h.mode]; exact id
  refine ⟨fun hg => ?_, fun hm => ?_, fun hm => ?_⟩
  · obtain ⟨hi, ho, hr, hc, hq⟩ := h1 (hgone hg)
    obtain ⟨ei, eo, er, ec⟩ := h.port (hgone hg) hq
    exact ⟨ei.trans hi, eo.trans ho, er.trans hr, ec.trans hc, fun j r hr => (h.record (hgone hg) hq j r hr).1⟩
  · have hm' := h.mode ▸ hm
    obtain ⟨-, -, -, -, hq⟩ := h1 (.inl hm')
    exact fun j r hr => (h.record (.inl hm') hq j r hr).2 fun r0 => h2 hm' j r0
  · have hm' := h.mode ▸ hm
    obtain ⟨-, -, -, -, hq⟩ := h1 (.inr hm')
    obtain ⟨hc, hf⟩ := h3 hm'
    rw [h.cursor]
    exact ⟨hc, fun j r hj hr => (h.record (.inr hm') hq j r hr).2 fun r0 => hf j r0 hj⟩

/-- An update that leaves the records and the port alone spares the port. -/
theorem State.sparesPort_of_same {p : Port} {s t : State} (hp : t.port p = s.port p) (hs : t.slots = s.slots)
    (hc : s.gone p → t.changed[p.val] = s.changed[p.val]) (hcur : t.cursors[p.val] = s.cursors[p.val]) :
    s.sparesPort p t where
  mode := by rw [hp]
  cursor := hcur
  port hg _ := by rw [hp]; exact ⟨rfl, rfl, rfl, hc hg⟩
  record _ hq j r hr := by
    rw [show t.slot j = s.slot j by simp [State.slot, hs]] at hr
    exact ⟨hq j r hr, fun h => h r hr⟩

/-! ### What an event on a record does for a port that is gone -/

/-- A change of a record that brings up nothing of port `p`. -/
def Record.spares (p : Port) (r0 r1 : Record) : Prop :=
  r0.quietFor p → r1.quietFor p ∧ (r0.freeOf p → r1.freeOf p)

theorem responsesFor_eq_nil {p : Port} {rs : List (Port × Response)} (h : ∀ a ∈ rs, a.1 ≠ p) : responsesFor p rs = [] := by
  simp only [responsesFor, List.map_eq_nil_iff, List.filter_eq_nil_iff, beq_iff_eq]
  exact h

theorem State.port_placeAll_unanswered {p : Port} {rs : List (Port × Response)} (h : ∀ a ∈ rs, a.1 ≠ p) (s : State) :
    (s.placeAll rs).port p = s.port p := by
  rw [State.port_placeAll, responsesFor_eq_nil h]
  simp

/-- A record that is quiet for a port has no response for it as its slot empties (R26). -/
theorem closing_unanswered {p : Port} {r : Record} (h : r.quietFor p) (c : ResultCode) :
    ∀ a ∈ closedResponses r.body ++ heldResponse r.held c, a.1 ≠ p := by
  obtain ⟨-, hh, hw⟩ := h
  intro a ha
  rcases List.mem_append.1 ha with ha | ha
  · obtain ⟨w, hw', rfl⟩ := List.mem_map.1 ha
    exact hw w hw'
  · cases hr : r.held with
    | pending q t =>
      rw [hr] at ha
      rw [List.mem_singleton.1 ha]
      exact fun hqp => hh t (hr.trans (by rw [show q = p from hqp]))
    | _ => rw [hr] at ha; cases ha

/-- A port that does not watch a record has nothing reported (R118). -/
theorem notify_unwatched {p : Port} {watch : Vector WatchMode 4} (h : watch[p.val] = .off) (e : ChangedEntry) (s : State) :
    (s.notify watch e).changed[p.val] = s.changed[p.val] := by
  rw [notify_set, h]
  exact noticeFor_kept_none rfl _

theorem State.changed_emptySlot_unwatched {p : Port} {i : Slot} {r0 r1 : Record} {c : ResultCode} {s : State}
    (h : r1.watch[p.val] = .off) : (s.emptySlot i r0 r1 c).changed[p.val] = s.changed[p.val] := by
  simp only [State.changed_emptySlot]
  exact notify_unwatched h _ _

theorem State.changed_updateRecord_unwatched {p : Port} {i : Slot} {r0 r1 : Record} {s : State}
    (h : r1.watch[p.val] = .off) : (s.updateRecord i r0 r1).changed[p.val] = s.changed[p.val] := by
  simp only [State.changed_updateRecord]
  split
  · exact notify_unwatched h _ _
  · rfl

theorem State.sparesPort_emptySlot {p : Port} {i : Slot} {rec : Record} {c : ResultCode} {s : State}
    (hs : (s.slot i).record = some rec) : s.sparesPort p (s.emptySlot i rec rec c) := by
  have hport : s.everyRecord (Record.quietFor p) → (s.emptySlot i rec rec c).port p = s.port p := fun hq => by
    have := State.port_placeAll_unanswered (closing_unanswered (hq i rec hs) c) s
    simpa [State.port, State.ports_emptySlot] using this
  refine ⟨?_, by simp, fun _ hq => ?_, fun _ hq j r hr => ?_⟩
  · obtain ⟨more, hm⟩ := State.port_emptySlot_tail p i rec rec c s
    rw [hm]
  · rw [hport hq]
    exact ⟨rfl, rfl, rfl, State.changed_emptySlot_unwatched (hq i rec hs).1⟩
  · rw [State.slot_emptySlot] at hr
    split at hr
    · cases hr
    · exact ⟨hq j r hr, fun h => h r hr⟩

/-- An event on a record spares a port when it answers no request of it and brings up nothing of it on the record. -/
theorem State.sparesPort_finishEvent {p : Port} {i : Slot} {rec r1 : Record} {rs : List (Port × Response)} {s : State}
    (hs : (s.slot i).record = some rec)
    (h : s.gone p → Record.spares p rec r1 ∧ (rec.quietFor p → ∀ a ∈ rs, a.1 ≠ p)) :
    s.sparesPort p (s.finishEvent i rec r1 rs) := by
  refine ⟨?_, by simp, fun hg hq => ?_, fun hg hq j r hr => ?_⟩
  · obtain ⟨more, hm⟩ := State.port_finishEvent_tail p i rec r1 rs s
    rw [hm]
  · obtain ⟨h1, h2⟩ := h hg
    obtain ⟨hq1, -⟩ := h1 (hq i rec hs)
    have hp1 := State.port_placeAll_unanswered (h2 (hq i rec hs)) s
    unfold State.finishEvent
    dsimp only
    split
    · have hp2 := State.port_placeAll_unanswered (closing_unanswered hq1 .done) (s.placeAll rs)
      have hp3 : ((s.placeAll rs).emptySlot i rec r1 .done).port p = s.port p := by
        rw [← hp1, ← hp2]; simp [State.port, State.ports_emptySlot]
      rw [hp3, State.changed_emptySlot_unwatched hq1.1]
      simp
    · rw [State.changed_updateRecord_unwatched hq1.1]
      simp [hp1]
  · obtain ⟨h1, -⟩ := h hg
    rcases State.record_finishEvent hr with ⟨rfl, rfl, -⟩ | ⟨-, hr⟩
    · obtain ⟨hq1, hf1⟩ := h1 (hq j rec hs)
      exact ⟨hq1, fun hf => hf1 (hf rec hs)⟩
    · exact ⟨hq j r hr, fun hf => hf r hr⟩

/-- An event on a body makes nothing of a port that has no waiter on it and does not ask for it. -/
theorem BodyEvent.freeOf {free : Nat} {taker : Option Port} {x y : Body} {rs : List (Port × Response)}
    (he : BodyEvent free taker x y rs) {p : Port} (ht : taker ≠ some p) (hw : ∀ w ∈ x.waiters, w.port ≠ p)
    (hf : x.freeOf p) : y.freeOf p := by
  cases he with
  | pool h =>
    refine Bool.eq_false_iff.2 fun hl => ?_
    rcases h.lists hl with hl | ⟨w, hw', hp⟩ | hp
    · rw [show _ = false from hf] at hl; cases hl
    · exact hw w hw' hp
    · exact ht hp
  | flags _ hc => exact fun n hn => (hc n p hn).elim (hf n) ht
  | counter | sequence => trivial

/-- The waiters that stay were there before, so none of them is of a port that had none. -/
theorem BodyEvent.waiters_ne {free : Nat} {taker : Option Port} {x y : Body} {rs : List (Port × Response)}
    (he : BodyEvent free taker x y rs) {p : Port} (hw : ∀ w ∈ x.waiters, w.port ≠ p) :
    (∀ w ∈ y.waiters, w.port ≠ p) ∧ ∀ a ∈ rs, a.1 ≠ p := by
  have hperm := he.who
  constructor
  · intro w hw' hp
    have : w.who ∈ x.waiters.map Waiter.who := hperm.subset (List.mem_append_right _ (List.mem_map_of_mem hw'))
    obtain ⟨v, hv, hve⟩ := List.mem_map.1 this
    exact hw v hv ((congrArg Prod.fst hve).trans hp)
  · intro a ha hp
    have : answered a ∈ x.waiters.map Waiter.who := hperm.subset (List.mem_append_left _ (List.mem_map_of_mem ha))
    obtain ⟨v, hv, hve⟩ := List.mem_map.1 this
    exact hw v hv ((congrArg Prod.fst hve).trans hp)

theorem Record.spares_body {free : Nat} {taker : Option Port} {rec : Record} {body : Body} {rs : List (Port × Response)}
    {p : Port} (hb : BodyEvent free taker rec.body body rs) (ht : taker ≠ some p) :
    Record.spares p rec { rec with body := body } := fun ⟨h1, h2, h3⟩ =>
  ⟨⟨h1, h2, (hb.waiters_ne h3).1⟩, fun ⟨hf, ho⟩ => ⟨hb.freeOf ht h3 hf, ho⟩⟩

theorem State.sparesPort_body {p : Port} {i : Slot} {rec : Record} {body : Body} {rs : List (Port × Response)} {s : State}
    (hs : (s.slot i).record = some rec) (hb : BodyEvent s.freeHoldings none rec.body body rs) :
    s.sparesPort p (s.finishEvent i rec { rec with body := body } rs) :=
  State.sparesPort_finishEvent hs fun _ => ⟨Record.spares_body hb nofun, fun hq => (hb.waiters_ne hq.2.2).2⟩

/-! ### Requests -/

/-- A reply to a port that is there spares every port that is gone. -/
theorem State.sparesPort_reply {p q : Port} {r : Request} {c : ResultCode} {d : List Word} {s t : State}
    (h : s.sparesPort q t) (hp : ¬s.gone p) : s.sparesPort q (t.reply p r c d) := by
  have hport : s.gone q → (t.reply p r c d).port q = t.port q := fun hg =>
    State.port_placeAll_unanswered (rs := [(p, answer r c d)]) (fun a ha => by
      rw [List.mem_singleton.1 ha]
      rintro rfl
      exact hp hg) t
  refine ⟨?_, by simpa using h.cursor, fun hg hq => ?_, fun hg hq j x hx => ?_⟩
  · obtain ⟨more, hm⟩ := State.port_reply_tail q p r c d t
    rw [hm]; exact h.mode
  · rw [hport hg]
    simpa using h.port hg hq
  · exact h.record hg hq j x (by simpa using hx)

theorem State.sparesPort_refl (p : Port) (s : State) : s.sparesPort p s := State.sparesPort_of_same rfl rfl (fun _ => rfl) rfl

/-- A record written in its slot spares a port when it brings up nothing of it. -/
theorem State.sparesPort_writeRecord {p : Port} {i : Slot} {r1 : Record} {s t : State} (hp : t.port p = s.port p)
    (hc : t.changed[p.val] = s.changed[p.val]) (hcur : t.cursors[p.val] = s.cursors[p.val])
    (hs : t.slots = s.slots.set i.val ⟨(s.slot i).gen, some r1⟩)
    (h : s.gone p → s.everyRecord (Record.quietFor p) →
      r1.quietFor p ∧ ((∀ r0, (s.slot i).record = some r0 → r0.freeOf p) → r1.freeOf p)) : s.sparesPort p t where
  mode := by rw [hp]
  cursor := hcur
  port _ _ := by rw [hp]; exact ⟨rfl, rfl, rfl, hc⟩
  record hg hq j r hr := by
    have ht : t.slot j = (s.writeRecord i r1).slot j := by simp [State.slot, hs, State.slots_writeRecord]
    rw [ht, State.slot_writeRecord] at hr
    split at hr
    next hij =>
      subst hij
      cases hr
      exact h hg hq
    · exact ⟨hq j r hr, fun hf => hf r hr⟩

/-- A new record has nothing of any port but its owner (R15). -/
theorem newRecord_quiet {q : Request} {body : Body} (h : createBody q = some body) {p p' : Port} (hp : p' ≠ p) (key : Word) :
    (newRecord key p body).quietFor p' ∧ (newRecord key p body).freeOf p' := by
  refine ⟨⟨by simp [newRecord], fun _ => nofun, fun w hw => ?_⟩, ?_, fun ho => hp (Option.some.inj ho).symm⟩
  · rw [show (newRecord key p body).body.waiters = [] from waiters_createBody h] at hw
    cases hw
  · show body.freeOf p'
    unfold createBody createPool createCounter createFlags createSequence at h
    dsimp only at h
    repeat' split at h
    all_goals cases h
    all_goals simp [Body.freeOf, Pool.lists]

/-- A request spares every port that is gone. -/
theorem RequestEffect.sparesPort {c : ReqCode} {p q : Port} {r : Request} {u t : State} (he : RequestEffect c p r u t)
    (hp : ¬u.gone p) : u.sparesPort q t := by
  have hne : u.gone q → p ≠ q := fun hg hpq => hp (hpq ▸ hg)
  cases he with
  | reply => exact State.sparesPort_reply (State.sparesPort_refl q u) hp
  | exhausted => exact State.sparesPort_reply (State.sparesPort_of_same rfl rfl (fun _ => rfl) rfl) hp
  | body _ _ hs hb =>
    refine State.sparesPort_finishEvent hs fun hg => ⟨Record.spares_body hb fun h => hne hg (Option.some.inj h), ?_⟩
    intro hq a ha
    rcases List.mem_append.1 ha with ha | ha
    · exact (hb.waiters_ne hq.2.2).2 a ha
    · rw [List.mem_singleton.1 ha]; exact hne hg
  | @queue rec b _ _ hs hb =>
    refine State.sparesPort_finishEvent hs fun hg => ⟨fun ⟨h1, h2, h3⟩ => ⟨⟨h1, h2, fun w hw => ?_⟩, fun hf => ?_⟩, nofun⟩
    · rcases List.mem_append.1 hw with hw | hw
      · exact h3 w (by rw [hb]; exact hw)
      · rw [List.mem_singleton.1 hw]; exact hne hg
    · obtain ⟨hf, ho⟩ := hf
      rw [hb] at hf
      exact ⟨hf, ho⟩
  | @hold rec hs =>
    refine State.sparesPort_finishEvent hs fun hg => ⟨fun ⟨h1, h2, h3⟩ => ⟨⟨h1, fun t ht => ?_, fun w hw => ?_⟩, fun hf => ?_⟩,
      fun hq a ha => closing_unanswered hq .done a (List.mem_append_left _ ha)⟩
    · cases ht; exact hne hg rfl
    · rw [waiters_withoutWaiters] at hw; cases hw
    · obtain ⟨hf, ho⟩ := hf
      refine ⟨?_, ho⟩
      show rec.body.withoutWaiters.freeOf q
      cases hb : rec.body <;> rw [hb] at hf <;> exact hf
  | retire hs => exact State.sparesPort_reply (State.sparesPort_emptySlot hs) hp
  | own hs =>
    refine State.sparesPort_reply (State.sparesPort_writeRecord rfl rfl rfl rfl fun hg hq => ?_) hp
    obtain ⟨h1, h2, h3⟩ := hq _ _ hs
    exact ⟨⟨h1, h2, h3⟩, fun hf => ⟨(hf _ hs).1, fun ho => hne hg (Option.some.inj ho)⟩⟩
  | @watch rec mode hs =>
    refine State.sparesPort_reply (State.sparesPort_writeRecord rfl rfl rfl rfl fun hg hq => ?_) hp
    obtain ⟨h1, h2, h3⟩ := hq _ _ hs
    refine ⟨⟨?_, h2, h3⟩, fun hf => hf rec hs⟩
    have := hne hg
    simp [Fin.val_ne_of_ne this, h1]
  | @assign rec line hs =>
    refine State.sparesPort_reply (State.sparesPort_writeRecord (i := r.target) (r1 := { rec with line := line })
      (by simp) (by simp) (by simp) (by simp [State.slots_writeRecord]) fun hg hq => ?_) hp
    exact ⟨hq _ rec hs, fun hf => hf rec hs⟩
  | create hc hb =>
    refine State.sparesPort_reply (State.sparesPort_writeRecord rfl rfl rfl rfl fun hg hq => ?_) hp
    obtain ⟨h1, h2⟩ := newRecord_quiet hb (Ne.symm (hne hg)) (r.word 1)
    exact ⟨h1, fun _ => h2⟩
  | notice =>
    exact State.sparesPort_reply (State.sparesPort_of_same rfl rfl (fun hg => by simp [changed_set, hne hg]) rfl) hp

/-! ### The entry into DRAINING -/

/-- A held RETIRE is pending after a port's entry when it was pending for another port (R20). -/
theorem discardOf_eq_pending {h : HeldRetire} {p q : Port} {t : Tag} :
    h.discardOf p = .pending q t ↔ h = .pending q t ∧ q ≠ p := by
  cases h with
  | pending q' t' =>
    rw [show (HeldRetire.pending q' t').discardOf p = if q' = p then .discarded else .pending q' t' from rfl]
    split
    next hq => simpa using fun h _ => h.symm.trans hq
    next hq => simpa using fun h _ hp => hq (h.trans hp)
  | _ => simp [HeldRetire.discardOf]

/-- A port's waiters leave every queue at its entry into DRAINING (R82). -/
theorem port_ne_of_mem_leftBy {p : Port} {b : Body} {w : Waiter} (hw : w ∈ (b.leftBy p).1.waiters) : w.port ≠ p := by
  cases b with
  | pool b =>
    cases ha : b.waiters.any (ofPort p) with
    | true =>
      rw [Body.leftBy_waiting ha] at hw
      have h1 := (core_cascade (b.endWaiters (ofPort p))).subset (List.mem_map_of_mem hw)
      rw [core_endWaiters] at h1
      obtain ⟨v, hv, hvc⟩ := List.mem_map.1 h1
      have hv' := (List.mem_filter.1 hv).2
      have hport : v.port = w.port := congrArg Prod.fst hvc
      rw [← hport]
      simpa [ofPort] using hv'
    | false =>
      rw [Body.leftBy_idle ha] at hw
      simpa [ofPort] using List.any_eq_false.1 ha w hw
  | _ => cases hw

/-- The entry of port `p` ends its waiters, its watch and its pending held RETIRE on a record (R82, R20, R116). -/
theorem quietFor_leftBy_forget (p : Port) (r : Record) :
    (Record.forget p { r with body := (r.body.leftBy p).1 }).quietFor p :=
  ⟨by simp [Record.forget], fun _ ht => (discardOf_eq_pending.1 ht).2 rfl, fun _ hw => port_ne_of_mem_leftBy hw⟩

/-- The entry of another port into DRAINING brings up nothing of a port on a record. -/
theorem Record.spares_forget (p q : Port) (r : Record) : Record.spares p r (r.forget q) := by
  rintro ⟨h1, h2, h3⟩
  refine ⟨⟨?_, fun t ht => h2 t (discardOf_eq_pending.1 ht).1, h3⟩, id⟩
  simp only [Record.forget, Vector.getElem_set]
  split
  · rfl
  · exact h1

/-- A draining port gets no response whatever ends on whatever record (R143). -/
theorem State.port_finishEvent_draining {p : Port} {i : Slot} {r0 r1 : Record} {rs : List (Port × Response)} {s : State}
    (h : (s.port p).mode = .draining) : (s.finishEvent i r0 r1 rs).port p = s.port p := by
  have h1 : ∀ rs, (s.placeAll rs).port p = s.port p := fun rs => by rw [State.port_placeAll, if_pos h]
  unfold State.finishEvent
  dsimp only
  split
  · have h2 : ((s.placeAll rs).placeAll (closedResponses r1.body ++ heldResponse r1.held .done)).port p = s.port p := by
      rw [← State.placeAll_append, h1]
    rw [← h2]
    simp [State.port, State.ports_emptySlot]
  · simp [h1]

theorem State.port_dropWaiters_draining {p q : Port} {s : State} (h : (s.port q).mode = .draining) :
    (s.dropWaiters p).port q = s.port q :=
  State.dropWaiters_induction (P := fun u => u.port q = s.port q)
    (fun _ _ _ _ hu _ _ _ => (State.port_finishEvent_draining (hu ▸ h)).trans hu) rfl

theorem State.changed_enterDraining (p : Port) (s : State) : (s.enterDraining p).changed =
    ((s.modifyPort p (PortState.cleared .draining)).dropWaiters p).changed.set p.val [] := by
  simp only [State.enterDraining]

theorem State.cursors_enterDraining (p : Port) (s : State) : (s.enterDraining p).cursors = s.cursors.set p.val 0 := by
  have h : ((s.modifyPort p (PortState.cleared .draining)).dropWaiters p).cursors = s.cursors :=
    (State.dropWaiters_keeps (fun u => u.cursors) (by simp) _).trans rfl
  simp only [State.enterDraining, h]

/-- The port's own state after its entry into DRAINING (R158). -/
theorem State.port_enterDraining_self (p : Port) (s : State) :
    (s.enterDraining p).port p = PortState.cleared .draining (s.port p) := by
  have h : (s.modifyPort p (PortState.cleared .draining)).port p = PortState.cleared .draining (s.port p) := by
    simp
  have hd : ((s.modifyPort p (PortState.cleared .draining)).port p).mode = .draining := by rw [h]; rfl
  rw [← h, ← State.port_dropWaiters_draining (p := p) hd]
  simp [State.port, State.ports_enterDraining]

theorem State.withdrawnAt_enterDraining_self (p : Port) (s : State) : (s.enterDraining p).withdrawnAt p := by
  have hport := State.port_enterDraining_self p s
  refine ⟨fun _ => ?_, fun hm => ?_, fun _ => ?_⟩
  · rw [hport]
    refine ⟨rfl, rfl, rfl, by simp [State.changed_enterDraining], fun j r hr => ?_⟩
    rw [State.slot_enterDraining, SlotState.forget, SlotState.leftBy, Option.map_map, Option.map_eq_some_iff] at hr
    obtain ⟨r0, -, rfl⟩ := hr
    exact quietFor_leftBy_forget p r0
  · rw [hport] at hm; cases hm
  · simp only [State.cursors_enterDraining, Vector.getElem_set_self]
    exact ⟨Nat.zero_lt_succ 255, fun i r hi => absurd hi (Nat.not_lt_zero _)⟩

/-- The end of the waiters of a port, with the cascade, brings up nothing of a port that has none on the record (R82). -/
theorem waiters_endAndCascade_ne {b : Pool} {q : Port} (f : Waiter → Bool) (hw : ∀ w ∈ b.waiters, w.port ≠ q) :
    (∀ w ∈ (b.endWaiters f).cascade.1.waiters, w.port ≠ q) ∧ (∀ a ∈ (b.endWaiters f).cascade.2, a.1 ≠ q) ∧
    (b.lists q = false → (b.endWaiters f).cascade.1.lists q = false) := by
  have hperm : ∀ x, x ∈ ((b.endWaiters f).cascade.2.map answered ++ (b.endWaiters f).cascade.1.waiters.map Waiter.who) →
      x.1 ≠ q := fun x hx => by
    rw [who_cascade, who_endWaiters] at hx
    obtain ⟨v, hv, rfl⟩ := List.mem_map.1 hx
    exact hw v (List.mem_filter.1 hv).1
  refine ⟨fun w hm => hperm w.who (by simp only [List.mem_append, List.mem_map]; exact .inr ⟨w, hm, rfl⟩),
    fun a ha => hperm (answered a) (by simp only [List.mem_append, List.mem_map]; exact .inl ⟨a, ha, rfl⟩), fun hl => ?_⟩
  refine Bool.eq_false_iff.2 fun h => ?_
  rcases lists_cascade h with h | h
  · rw [show (b.endWaiters f).lists q = b.lists q from rfl, hl] at h; cases h
  · obtain ⟨v, hv, hvq⟩ := exists_waiter_endWaiters h
    exact hw v hv hvq

theorem State.withdrawnAt_enterDraining_ne {p q : Port} (hpq : p ≠ q) {s : State} (h : s.withdrawnAt q) :
    (s.enterDraining p).withdrawnAt q := by
  have h1 : (s.modifyPort p (PortState.cleared .draining)).withdrawnAt q :=
    (State.sparesPort_of_same (State.port_modifyPort_ne hpq _ s) rfl (fun _ => rfl) rfl).withdrawnAt h
  have h2 : ((s.modifyPort p (PortState.cleared .draining)).dropWaiters p).withdrawnAt q :=
    State.dropWaiters_induction (P := State.withdrawnAt q) (fun u i rec b hu hr hb hw => by
      refine (State.sparesPort_finishEvent hr fun _ => ⟨fun ⟨hq1, hq2, hq3⟩ => ?_, fun ⟨_, _, hq3⟩ => ?_⟩).withdrawnAt hu
      · rw [hb] at hq3
        obtain ⟨hw1, -, hl⟩ := waiters_endAndCascade_ne (ofPort p) hq3
        refine ⟨⟨hq1, hq2, hw1⟩, fun ⟨hf, ho⟩ => ⟨hl ?_, ho⟩⟩
        rw [hb] at hf; exact hf
      · rw [hb] at hq3
        exact (waiters_endAndCascade_ne (ofPort p) hq3).2.1) h1
  have hc : ((s.modifyPort p (PortState.cleared .draining)).dropWaiters p).cursors = s.cursors :=
    (State.dropWaiters_keeps (fun u => u.cursors) (by simp) _).trans rfl
  have hport : (s.enterDraining p).port q = ((s.modifyPort p (PortState.cleared .draining)).dropWaiters p).port q := by
    simp [State.port, State.ports_enterDraining]
  refine State.sparesPort.withdrawnAt ⟨by rw [hport], ?_, fun _ _ => ?_, fun _ hq j r hr => ?_⟩ h2
  · have := Fin.val_ne_of_ne hpq
    simp [State.cursors_enterDraining, hc, this]
  · rw [hport]
    simp [State.changed_enterDraining, changed_set, hpq]
  · rw [State.slot, State.slots_enterDraining] at hr
    simp only [Vector.getElem_map, SlotState.forget, Option.map_eq_some_iff] at hr
    obtain ⟨r0, h0, rfl⟩ := hr
    obtain ⟨hq1, hf1⟩ := Record.spares_forget q p r0 (hq j r0 h0)
    exact ⟨hq1, fun hf => hf1 (hf r0 h0)⟩

/-! ### The walk -/

/-- A walk step leaves nothing of its port on a record where the port has no waiter (R161). -/
theorem freeOf_reclaim {p : Port} {r : Record} (hw : ∀ w ∈ r.body.waiters, w.port ≠ p) : (r.reclaim p).freeOf p := by
  constructor
  · show (r.body.reclaim p).1.freeOf p
    cases hb : r.body with
    | pool b =>
      rw [hb] at hw
      unfold Body.reclaim
      dsimp only
      split
      · refine Bool.eq_false_iff.2 fun h => ?_
        rcases lists_cascade h with h | h
        · rw [lists_iff, (Pool.giveBack_whole (Nat.le_refl _)).1] at h
          obtain ⟨x, hx, hxp⟩ := List.mem_map.1 h
          exact absurd hxp (by simpa using (List.mem_filter.1 hx).2)
        · obtain ⟨v, hv, hvq⟩ := exists_waiter_of_who (vs := b.waiters) (by simp [who_of_core (Pool.core_giveBack _ _ b)]) h
          exact hw v hv hvq
      next hl => exact Bool.eq_false_iff.2 hl
    | flags b =>
      intro n hn
      rw [FlagSet.claimants_reclaim] at hn
      split at hn
      · cases hn
      next h => exact h hn
    | _ => trivial
  · show (if r.owner = some p then none else r.owner) ≠ some p
    split
    · nofun
    next h => exact h

theorem Record.spares_reclaim (p q : Port) (r : Record) : Record.spares p r (r.reclaim q) := fun ⟨h1, h2, h3⟩ => by
  have hb := bodyEvent_reclaim 0 none q r.body
  refine ⟨⟨h1, h2, (hb.waiters_ne h3).1⟩, fun ⟨hf, ho⟩ => ⟨hb.freeOf nofun h3 hf, fun h => ho ?_⟩⟩
  change (if r.owner = some q then none else r.owner) = some p at h
  split at h
  · cases h
  · exact h

theorem State.sparesPort_reclaimSlot (p q : Port) (i : Slot) (s : State) : s.sparesPort p (s.reclaimSlot q i) := by
  unfold State.reclaimSlot
  split
  · exact State.sparesPort_refl p s
  next r hs =>
    exact State.sparesPort_finishEvent hs fun _ => ⟨Record.spares_reclaim p q r, fun hq =>
      ((bodyEvent_reclaim 0 none q r.body).waiters_ne hq.2.2).2⟩

/-- The slot of a walk step is left free of its port. -/
theorem State.freeOf_reclaimSlot {p : Port} {i : Slot} {s : State} (hq : s.everyRecord (Record.quietFor p)) {r : Record}
    (hr : ((s.reclaimSlot p i).slot i).record = some r) : r.freeOf p := by
  unfold State.reclaimSlot at hr
  split at hr
  next hs => rw [hs] at hr; cases hr
  next r0 hs =>
    rcases State.record_finishEvent hr with ⟨-, rfl, -⟩ | ⟨hne, -⟩
    · exact freeOf_reclaim (hq i r0 hs).2.2
    · exact absurd rfl hne

theorem State.slots_advanceCursor (p : Port) (n : Nat) (s : State) : (s.advanceCursor p n).slots = s.slots := by
  unfold State.advanceCursor; dsimp only; split <;> rfl

theorem State.changed_advanceCursor (p : Port) (n : Nat) (s : State) : (s.advanceCursor p n).changed = s.changed := by
  unfold State.advanceCursor; dsimp only; split <;> rfl

theorem State.cursors_advanceCursor (p : Port) (n : Nat) (s : State) :
    (s.advanceCursor p n).cursors = s.cursors.set p.val (n + 1) := by
  unfold State.advanceCursor; dsimp only; split <;> rfl

/-- The port leaves DRAINING with the step at slot 255 (R163). -/
theorem State.port_advanceCursor (p q : Port) (n : Nat) (s : State) :
    (s.advanceCursor p n).port q =
      if p = q ∧ 256 ≤ n + 1 then { s.port q with mode := .offline } else s.port q := by
  unfold State.advanceCursor
  dsimp only
  split
  next h => rw [if_neg fun h' => absurd h (Nat.not_lt.2 h'.2)]; rfl
  next h =>
    have h' : 256 ≤ n + 1 := Nat.not_lt.1 h
    refine (State.port_modifyPort p q (fun q => { q with mode := .offline })
      { s with cursors := s.cursors.set p.val (n + 1) }).trans ?_
    by_cases hq : p = q
    · subst hq; simp [h', State.port]
    · simp [hq, State.port]

theorem State.withdrawnAt_advanceCursor_ne {p q : Port} (hpq : p ≠ q) (n : Nat) {s : State} (h : s.withdrawnAt q) :
    (s.advanceCursor p n).withdrawnAt q := by
  have hv := Fin.val_ne_of_ne hpq
  exact (State.sparesPort_of_same (by simp [State.port_advanceCursor, hpq]) (State.slots_advanceCursor p n s)
    (fun _ => by rw [State.changed_advanceCursor]) (by simp [State.cursors_advanceCursor, hv])).withdrawnAt h

/-- A walking port keeps the law when the slot at its cursor is free of it. -/
theorem State.withdrawnAt_advanceCursor_self {p : Port} {s : State} (hm : (s.port p).mode = .draining) (h : s.withdrawnAt p)
    (hfree : ∀ (i : Slot) (r : Record), i.val = s.cursors[p.val] → (s.slot i).record = some r → r.freeOf p) :
    (s.advanceCursor p s.cursors[p.val]).withdrawnAt p := by
  obtain ⟨h1, -, h3⟩ := h
  obtain ⟨hi, ho, hr, hc, hq⟩ := h1 (.inr hm)
  obtain ⟨-, hf⟩ := h3 hm
  have hfree' : ∀ (i : Slot) (r : Record), i.val < s.cursors[p.val] + 1 → (s.slot i).record = some r → r.freeOf p :=
    fun i r hi hr => (Nat.lt_succ_iff_lt_or_eq.1 hi).elim (fun h => hf i r h hr) fun h => hfree i r h hr
  have hslot : ∀ i, (s.advanceCursor p s.cursors[p.val]).slot i = s.slot i := fun i => by
    simp [State.slot, State.slots_advanceCursor]
  refine ⟨fun _ => ⟨?_, ?_, ?_, ?_, fun j r hj => hq j r (hslot j ▸ hj)⟩, fun hoff i r hi => ?_, fun hd => ?_⟩
  · rw [State.port_advanceCursor]; split <;> exact hi
  · rw [State.port_advanceCursor]; split <;> exact ho
  · rw [State.port_advanceCursor]; split <;> exact hr
  · rw [State.changed_advanceCursor]; exact hc
  · rw [State.port_advanceCursor] at hoff
    split at hoff
    next hlt => exact hfree' i r (by have := i.isLt; omega) (hslot i ▸ hi)
    · rw [hm] at hoff; cases hoff
  · rw [State.port_advanceCursor] at hd
    split at hd
    · cases hd
    next hlt =>
      simp only [true_and, Nat.not_le] at hlt
      simp only [State.cursors_advanceCursor, Vector.getElem_set_self, hslot]
      exact ⟨hlt, hfree'⟩

theorem State.withdrawnAt_walk {p q : Port} {s : State} (hw : s.walking p = true) (h : ∀ q, s.withdrawnAt q) :
    ((s.reclaimSlot p (Fin.ofNat 256 s.cursors[p.val])).advanceCursor p s.cursors[p.val]).withdrawnAt q := by
  have h1 : ∀ q, (s.reclaimSlot p (Fin.ofNat 256 s.cursors[p.val])).withdrawnAt q := fun q =>
    (State.sparesPort_reclaimSlot q p _ s).withdrawnAt (h q)
  by_cases hpq : p = q
  · subst hpq
    obtain ⟨hm, hn⟩ := State.walking_iff.1 hw
    obtain ⟨-, -, -, -, hq⟩ := (h p).1 (.inr hm)
    have hspare := State.sparesPort_reclaimSlot p p (Fin.ofNat 256 s.cursors[p.val]) s
    have h2 := State.withdrawnAt_advanceCursor_self (hspare.mode.trans hm) (h1 p) fun i r hi hr => by
      have hi' : i = Fin.ofNat 256 s.cursors[p.val] :=
        Fin.ext (by rw [hi, hspare.cursor]; simp [Nat.mod_eq_of_lt hn])
      exact State.freeOf_reclaimSlot (i := Fin.ofNat 256 s.cursors[p.val]) hq (hi' ▸ hr)
    rwa [hspare.cursor] at h2
  · exact State.withdrawnAt_advanceCursor_ne hpq _ (h1 q)

/-! ### Each event keeps the law -/

/-- A write of a port's own state spares every other port, and itself where it has withdrawn and nothing of it comes up. -/
theorem State.withdrawnAt_modifyPort {p q : Port} {f : PortState → PortState} {s : State}
    (hf : (f (s.port p)).mode = .offline ∨ (f (s.port p)).mode = .draining →
      (f (s.port p)).mode = (s.port p).mode ∧
      ((s.port p).intake = [] → (s.port p).outstanding = [] → (s.port p).responses = [] →
        (f (s.port p)).intake = [] ∧ (f (s.port p)).outstanding = [] ∧ (f (s.port p)).responses = []))
    (h : s.withdrawnAt q) : (s.modifyPort p f).withdrawnAt q := by
  by_cases hpq : p = q
  · subst hpq
    have hp : (s.modifyPort p f).port p = f (s.port p) := by simp
    obtain ⟨h1, h2, h3⟩ := h
    refine ⟨fun hg => ?_, fun hm => ?_, fun hm => ?_⟩
    · unfold State.gone at hg
      rw [hp] at hg ⊢
      obtain ⟨hm, hs⟩ := hf hg
      rw [hm] at hg
      obtain ⟨a1, a2, a3, a4, a5⟩ := h1 hg
      obtain ⟨c1, c2, c3⟩ := hs a1 a2 a3
      exact ⟨c1, c2, c3, a4, a5⟩
    · rw [hp] at hm; exact h2 ((hf (.inl hm)).1 ▸ hm)
    · rw [hp] at hm; exact h3 ((hf (.inr hm)).1 ▸ hm)
  · exact (State.sparesPort_of_same (State.port_modifyPort_ne hpq f s) rfl (fun _ => rfl) rfl).withdrawnAt h

/-- An accepted submission has passed the check of the port state (R137). -/
theorem modeRefusal_of_accepted {p : Port} {w : Word} {s : State} (h : s.refusalOf p w = none) :
    modeRefusal (s.port p).mode (headerCode w) = none := by
  unfold State.refusalOf at h
  split at h
  · cases h
  split at h
  · cases h
  split at h
  · cases h
  next hm => exact hm

/-- A submission after which its port is OFFLINE or DRAINING leaves the port's queues and tags alone (R137, R141). -/
theorem submit_gone {p : Port} {w : Word} {s : State}
    (h : ((s.port p).submit w (s.refusalOf p w)).mode = .offline ∨ ((s.port p).submit w (s.refusalOf p w)).mode = .draining) :
    ((s.port p).submit w (s.refusalOf p w)).mode = (s.port p).mode ∧
    ((s.port p).submit w (s.refusalOf p w)).intake = (s.port p).intake ∧
    ((s.port p).submit w (s.refusalOf p w)).outstanding = (s.port p).outstanding ∧
    ((s.port p).submit w (s.refusalOf p w)).responses = (s.port p).responses := by
  cases hr : s.refusalOf p w with
  | some reason => exact ⟨rfl, rfl, rfl, rfl⟩
  | none =>
    have hm := modeRefusal_of_accepted hr
    rw [hr] at h
    unfold PortState.submit at h ⊢
    cases hc : headerCode w with
    | none => exact ⟨rfl, rfl, rfl, rfl⟩
    | some c =>
      rw [hc] at hm h
      by_cases hat : c = .attach
      · subst hat
        exfalso
        change (if _ then _ else _) = _ ∨ (if _ then _ else _) = _ at h
        cases hmode : (s.port p).mode <;> simp [hmode, modeRefusal] at h hm
      · exfalso
        have hmode : ∀ m : PortMode, m = .offline ∨ m = .draining → modeRefusal m (some c) ≠ none := by
          rintro m (rfl | rfl) <;> simp [modeRefusal, hat]
        refine hmode _ ?_ hm
        cases c with
        | attach => exact absurd rfl hat
        | _ => exact h

/-- With an empty table and nothing of the port's own the law holds of any port. -/
theorem State.withdrawnAt_of_empty {p : Port} {s : State} (hn : ∀ i : Slot, (s.slot i).record = none)
    (hp : s.port p = PortState.reset) (hc : s.changed[p.val] = []) : s.withdrawnAt p := by
  refine ⟨fun _ => ?_, fun _ i r hr => ?_, fun hd => ?_⟩
  · rw [hp]; exact ⟨rfl, rfl, rfl, hc, fun i r hr => by rw [hn] at hr; cases hr⟩
  · rw [hn] at hr; cases hr
  · rw [hp] at hd; cases hd

theorem State.slots_endSelfCheck (s : State) (i : Slot) : s.endSelfCheck.slot i = ⟨0, none⟩ := by
  unfold State.endSelfCheck
  split <;> simp [State.slot, State.setReason, State.memoriesReset, SlotState.reset]

theorem State.sparesPort_endSelfCheck (p : Port) (s : State) : s.sparesPort p s.endSelfCheck := by
  have h : s.endSelfCheck.ports = s.ports ∧ s.endSelfCheck.changed = s.changed ∧ s.endSelfCheck.cursors = s.cursors := by
    unfold State.endSelfCheck; split <;> exact ⟨rfl, rfl, rfl⟩
  obtain ⟨h1, h2, h3⟩ := h
  have hp : s.endSelfCheck.port p = s.port p := by simp [State.port, h1]
  refine ⟨by rw [hp], by rw [h3], fun _ _ => by rw [hp, h2]; exact ⟨rfl, rfl, rfl, rfl⟩, fun _ _ j r hr => ?_⟩
  rw [State.slots_endSelfCheck] at hr
  cases hr

/-- A unit boundary moves no waiter and no unit (R77). -/
theorem Record.spares_countDown (p : Port) (r : Record) : Record.spares p r { r with body := r.body.countDown } := by
  rintro ⟨h1, h2, h3⟩
  cases hb : r.body with
  | pool b =>
    rw [hb] at h3
    refine ⟨⟨h1, h2, fun w hw => ?_⟩, fun ⟨hf, ho⟩ => ⟨by rw [hb] at hf; exact hf, ho⟩⟩
    obtain ⟨v, hv, rfl⟩ := List.mem_map.1 hw
    exact h3 v hv
  | _ => exact ⟨⟨h1, h2, nofun⟩, fun ⟨hf, ho⟩ => ⟨by rw [hb] at hf; exact hf, ho⟩⟩

theorem State.sparesPort_countDown (p : Port) (s : State) :
    s.sparesPort p { s with slots := s.slots.map SlotState.countDown } := by
  refine ⟨rfl, rfl, fun _ _ => ⟨rfl, rfl, rfl, rfl⟩, fun _ hq j r hr => ?_⟩
  simp only [State.slot, Vector.getElem_map, SlotState.countDown, Option.map_eq_some_iff] at hr
  obtain ⟨r0, h0, rfl⟩ := hr
  obtain ⟨hq1, hf1⟩ := Record.spares_countDown p r0 (hq j r0 h0)
  exact ⟨hq1, fun hf => hf1 (hf r0 h0)⟩

theorem withdrawn_event {s t : State} (h : s.withdrawn) (he : Event s t) : t.withdrawn := by
  rw [withdrawn_iff] at h ⊢
  intro q
  cases he with
  | device hd =>
    obtain ⟨hp, hs, -, -, hc, -, hcur, -⟩ := hd
    exact (State.sparesPort_of_same (by simp [State.port, hp]) hs (fun _ => by rw [hc]) (by rw [hcur])).withdrawnAt (h q)
  | deviceReset a =>
    exact State.withdrawnAt_of_empty (fun i => congrArg SlotState.record (State.slot_reset i)) (State.port_reset q)
      (by simp [State.deviceReset, State.reset])
  | act hr ha =>
    cases ha with
    | endSelfCheck => exact (State.sparesPort_endSelfCheck q s).withdrawnAt (h q)
    | stage p w =>
      refine State.withdrawnAt_modifyPort (fun _ => ?_) (h q)
      unfold PortState.stage
      split <;> exact ⟨rfl, fun a b c => ⟨a, b, c⟩⟩
    | submit p w =>
      refine State.withdrawnAt_modifyPort (fun hg => ?_) (h q)
      obtain ⟨h1, h2, h3, h4⟩ := submit_gone hg
      rw [h1, h2, h3, h4]
      exact ⟨rfl, fun a b c => ⟨a, b, c⟩⟩
    | readResponse p =>
      refine State.withdrawnAt_modifyPort (fun _ => ⟨?_, fun a b c => ?_⟩) (h q)
      · unfold PortState.readResponse
        split
        · rfl
        split <;> rfl
      · rw [PortState.readResponse_empty c]; exact ⟨a, b, c⟩
    | control p w => exact State.withdrawnAt_modifyPort (fun _ => ⟨rfl, fun a b c => ⟨a, b, c⟩⟩) (h q)
    | fence p _ => exact State.withdrawnAt_modifyPort (fun hg => by rcases hg with hg | hg <;> cases hg) (h q)
    | unfence p _ => exact State.withdrawnAt_modifyPort (fun hg => by rcases hg with hg | hg <;> cases hg) (h q)
    | @request p c r rest t hat he =>
      have hon := State.atTurn_online hat
      have hu : (s.turnTaken p rest).withdrawnAt q := by
        by_cases hpq : p = q
        · subst hpq
          refine State.withdrawnAt_of_not_gone (State.not_gone (.inl ?_))
          simpa using hon
        · refine (State.sparesPort_of_same (s := s) (t := s.turnTaken p rest) ?_ rfl (fun _ => rfl) rfl).withdrawnAt (h q)
          rw [State.port_turnTaken, if_neg hpq]
      refine (he.sparesPort (State.not_gone (.inl ?_))).withdrawnAt hu
      simpa using hon
    | body hs hb => exact (State.sparesPort_body hs hb).withdrawnAt (h q)
    | empty _ hs => exact (State.sparesPort_emptySlot hs).withdrawnAt (h q)
    | countDown => exact (State.sparesPort_countDown q s).withdrawnAt (h q)
    | @enterDraining p _ =>
      by_cases hpq : p = q
      · exact hpq ▸ State.withdrawnAt_enterDraining_self p s
      · exact State.withdrawnAt_enterDraining_ne hpq (h q)
    | clearOffline hm =>
      exact State.withdrawnAt_modifyPort (fun _ => ⟨hm.symm, fun _ _ _ => ⟨rfl, rfl, rfl⟩⟩) (h q)
    | walk hw => exact State.withdrawnAt_walk hw h

end Sys2Proof.Machine

namespace Sys2Proof.Proofs

open Sys2Proof.Machine

/-- Settles O57: an event spares a port that has withdrawn, but for the entry into DRAINING and the walk, which take from it all
that the law says it has not. -/
theorem withdrawnPortsHoldNothing : Obligations.WithdrawnPortsHoldNothing := fun _ _ hs h =>
  step_keeps (P := State.withdrawn) (fun _ _ hs he => withdrawn_event hs he) hs h

end Sys2Proof.Proofs
end

section
/-! The outstanding tags (O58): each event moves a tag from one of the four places of R142 to another, or takes it up, or gives it
back (R137, R140 to R144). -/

namespace Sys2Proof.Machine

/-! ### How often a tag stands in the four places -/

/-- How often a record keeps the tag `g` of port `p`. -/
def Record.tagCount (p : Port) (g : Tag) (r : Record) : Nat := (r.tagsOf p).count g

/-- How often the record of a slot keeps the tag `g` of port `p`. -/
def SlotState.tagCount (p : Port) (g : Tag) (x : SlotState) : Nat := (x.tagsOf p).count g

/-- How often the tag `g` stands among responses to port `p`. -/
def answersTo (p : Port) (g : Tag) (rs : List (Port × Response)) : Nat := ((responsesFor p rs).map (·.tag)).count g

/-- How often the tag `g` of port `p` stands in the four places of R142. -/
def State.tagCount (p : Port) (g : Tag) (s : State) : Nat :=
  ((s.port p).intake.map (·.tag)).count g + (s.slots.toList.map (SlotState.tagCount p g)).sum +
    ((s.port p).responses.map (·.tag)).count g

/-- A pending held RETIRE of port `p` keeps its tag. -/
def HeldRetire.tagCount (p : Port) (g : Tag) (h : HeldRetire) : Nat := if h = .pending p g then 1 else 0

theorem State.count_tagsOf (s : State) (p : Port) (g : Tag) : (s.tagsOf p).count g = s.tagCount p g := by
  simp only [State.tagsOf, List.count_append, List.count_flatMap]
  rfl

theorem count_tags_of_port (p : Port) (g : Tag) (ws : List Waiter) :
    ((ws.filter (fun w => w.port == p)).map (·.tag)).count g = (ws.map Waiter.who).count (p, g) := by
  induction ws with
  | nil => rfl
  | cons w ws ih =>
    by_cases hp : w.port = p <;> by_cases hg : w.tag = g <;> simp [Waiter.who, hp, hg, ih]

theorem answersTo_eq (p : Port) (g : Tag) (rs : List (Port × Response)) :
    answersTo p g rs = (rs.map answered).count (p, g) := by
  unfold answersTo
  induction rs with
  | nil => rfl
  | cons a rs ih =>
    rw [responsesFor_cons]
    by_cases hp : a.1 = p <;> by_cases hg : a.2.tag = g <;> simp [answered, hp, hg, ih]

theorem answersTo_append (p : Port) (g : Tag) (as bs : List (Port × Response)) :
    answersTo p g (as ++ bs) = answersTo p g as + answersTo p g bs := by simp [answersTo_eq]

theorem answersTo_single (p q : Port) (g : Tag) (a : Response) :
    answersTo p g [(q, a)] = if q = p ∧ a.tag = g then 1 else 0 := by
  by_cases hp : q = p <;> by_cases hg : a.tag = g <;> simp [answersTo, responsesFor_cons, hp, hg]

/-- The tags a record keeps are those of its waiters and of its held RETIRE. -/
theorem Record.tagCount_eq (p : Port) (g : Tag) (r : Record) :
    r.tagCount p g = (r.body.waiters.map Waiter.who).count (p, g) + r.held.tagCount p g := by
  unfold Record.tagCount Record.tagsOf HeldRetire.tagCount
  rw [List.count_append, count_tags_of_port]
  congr 1
  cases r.held with
  | pending q t => by_cases hq : q = p <;> by_cases ht : t = g <;> simp [hq, ht]
  | _ => rfl

/-- As a slot empties, each tag that the record keeps is answered, once (R26). -/
theorem answersTo_closing (p : Port) (g : Tag) (r : Record) (c : ResultCode) :
    answersTo p g (closedResponses r.body ++ heldResponse r.held c) = r.tagCount p g := by
  rw [answersTo_append, Record.tagCount_eq]
  congr 1
  · rw [answersTo_eq, closedResponses, List.map_map]; rfl
  · unfold HeldRetire.tagCount
    cases r.held with
    | pending q t => rw [heldResponse, answersTo_single]; simp [HeldRetire.pending.injEq]
    | _ => rfl

/-! ### What moves the tags -/

theorem State.tagCount_congr {s t : State} {p : Port} (hi : (t.port p).intake = (s.port p).intake)
    (hr : (t.port p).responses = (s.port p).responses) (hs : t.slots = s.slots) (g : Tag) :
    t.tagCount p g = s.tagCount p g := by unfold State.tagCount; rw [hi, hr, hs]

/-- Responses placed bring their tags to the response queue of a port that is not DRAINING (R12, R143). -/
theorem State.tagCount_placeAll {p : Port} {s : State} (hm : (s.port p).mode ≠ .draining) (rs : List (Port × Response))
    (g : Tag) : (s.placeAll rs).tagCount p g = s.tagCount p g + answersTo p g rs := by
  unfold State.tagCount answersTo
  rw [State.port_placeAll, if_neg hm, State.placeAll_slots]
  simp only [List.map_append, List.count_append]
  omega

theorem tagCount_of_record {p : Port} {g : Tag} {x : SlotState} {r : Record} (h : x.record = some r) :
    x.tagCount p g = r.tagCount p g := by simp [SlotState.tagCount, SlotState.tagsOf, h, Record.tagCount]

theorem tagCount_of_none {p : Port} {g : Tag} {x : SlotState} (h : x.record = none) : x.tagCount p g = 0 := by
  simp [SlotState.tagCount, SlotState.tagsOf, h]

/-- The tags in the four places when the record of one slot is another. -/
theorem State.tagCount_set {s t : State} {p : Port} {i : Slot} {x : SlotState} (hp : t.port p = s.port p)
    (hs : t.slots = s.slots.set i.val x) (g : Tag) :
    t.tagCount p g + (s.slot i).tagCount p g = s.tagCount p g + x.tagCount p g := by
  have h := sum_slots_set (SlotState.tagCount p g) s i x
  unfold State.tagCount
  rw [hp, hs]
  omega

theorem State.tagCount_emptySlot {p : Port} {i : Slot} {rec : Record} {c : ResultCode} {s : State}
    (hm : (s.port p).mode ≠ .draining) (hs : (s.slot i).record = some rec) (r1 : Record) (g : Tag) :
    (s.emptySlot i rec r1 c).tagCount p g + rec.tagCount p g = s.tagCount p g + r1.tagCount p g := by
  have h1 := State.tagCount_placeAll hm (closedResponses r1.body ++ heldResponse r1.held c) g
  have h2 := State.tagCount_set (s := s.placeAll (closedResponses r1.body ++ heldResponse r1.held c))
    (t := s.emptySlot i rec r1 c) (p := p) (i := i) (x := ⟨(s.slot i).gen + 1, none⟩)
    (by simp [State.port, State.ports_emptySlot]) (by simp [State.slots_emptySlot]) g
  rw [tagCount_of_none (x := ⟨_, none⟩) rfl, State.placeAll_slot, tagCount_of_record hs, h1, answersTo_closing] at h2
  omega

/-- An event on a record moves tags from the record to the response queues, and from its request to either (R142). -/
theorem State.tagCount_finishEvent {p : Port} {i : Slot} {rec : Record} {s : State}
    (hm : (s.port p).mode ≠ .draining) (hs : (s.slot i).record = some rec) (r1 : Record) (rs : List (Port × Response))
    (g : Tag) : (s.finishEvent i rec r1 rs).tagCount p g + rec.tagCount p g =
      s.tagCount p g + r1.tagCount p g + answersTo p g rs := by
  have h1 := State.tagCount_placeAll hm rs g
  have hm' : ((s.placeAll rs).port p).mode ≠ .draining := by rwa [State.mode_placeAll]
  have hs' : ((s.placeAll rs).slot i).record = some rec := by simpa using hs
  unfold State.finishEvent
  dsimp only
  split
  · have h2 := State.tagCount_emptySlot (c := .done) hm' hs' r1 g
    omega
  · have h2 := State.tagCount_set (s := s.placeAll rs) (t := (s.placeAll rs).updateRecord i rec r1) (p := p) (i := i)
      (by simp) (State.slots_updateRecord _ _ _ _) g
    rw [tagCount_of_record hs', tagCount_of_record (r := r1) rfl] at h2
    omega

/-- The tags of an event on a body: those it no longer keeps are answered. -/
theorem BodyEvent.tagCount {free : Nat} {taker : Option Port} {rec : Record} {body : Body} {rs : List (Port × Response)}
    (hb : BodyEvent free taker rec.body body rs) (p : Port) (g : Tag) :
    Record.tagCount p g { rec with body := body } + answersTo p g rs = rec.tagCount p g := by
  have h := hb.who.count_eq (p, g)
  rw [List.count_append] at h
  rw [Record.tagCount_eq, Record.tagCount_eq, answersTo_eq]
  dsimp only
  omega

/-! ### Requests -/

/-- The tag of the request that is being taken. -/
def owed (p : Port) (r : Request) (q : Port) (g : Tag) : Nat := if p = q ∧ r.tag = g then 1 else 0

theorem State.tagCount_turnTaken {s : State} {p : Port} {c : ReqCode} {r : Request} {rest : List Request}
    (h : s.atTurn p c r rest) (q : Port) (g : Tag) :
    (s.turnTaken p rest).tagCount q g + owed p r q g = s.tagCount q g := by
  obtain ⟨-, hi, -⟩ := h
  unfold State.tagCount owed
  rw [State.port_turnTaken]
  by_cases hq : p = q
  · subst hq
    rw [if_pos rfl, hi]
    simp only [List.map_cons, List.count_cons, beq_iff_eq, true_and]
    rw [State.turnTaken_slots]
    omega
  · simp [hq]

theorem State.tagCount_reply {p q : Port} {r : Request} {c : ResultCode} {d : List Word} {s : State}
    (hm : (s.port q).mode ≠ .draining) (g : Tag) :
    (s.reply p r c d).tagCount q g = s.tagCount q g + owed p r q g := by
  have h := State.tagCount_placeAll hm [(p, answer r c d)] g
  rw [answersTo_single] at h
  exact h

/-- A record is written that keeps the tags of the one in its slot. -/
theorem State.tagCount_writeRecord {p : Port} {g : Tag} {i : Slot} {r1 : Record} {s : State}
    (h : r1.tagCount p g = (s.slot i).tagCount p g) : (s.writeRecord i r1).tagCount p g = s.tagCount p g := by
  have h1 := State.tagCount_set (s := s) (t := s.writeRecord i r1) (p := p) rfl (State.slots_writeRecord i r1 s) g
  rw [tagCount_of_record (x := ⟨(s.slot i).gen, some r1⟩) (r := r1) rfl] at h1
  omega

/-- A request's tag goes to a response queue or to the record, and every other tag stays where it is or is answered. -/
theorem RequestEffect.tagCount {c : ReqCode} {p : Port} {r : Request} {u t : State} (he : RequestEffect c p r u t)
    (hl : u.lifecycles) {q : Port} (hm : (u.port q).mode ≠ .draining) (g : Tag) :
    t.tagCount q g = u.tagCount q g + owed p r q g := by
  cases he with
  | reply => exact State.tagCount_reply hm g
  | exhausted n result => exact State.tagCount_reply (s := u.setReason n) hm g
  | @body i rec body rs result data _ hs hb =>
    have h1 := State.tagCount_finishEvent hm hs { rec with body := body } (rs ++ [(p, answer r result data)]) g
    have h2 := hb.tagCount q g
    rw [answersTo_append, answersTo_single, show (if p = q ∧ (answer r result data).tag = g then 1 else 0) = owed p r q g
      from rfl] at h1
    omega
  | @queue rec b n timeout hs hb =>
    have h1 := State.tagCount_finishEvent hm hs
      { rec with body := .pool { b with waiters := b.waiters ++ [newWaiter b n timeout p r] } } [] g
    have h2 : Record.tagCount q g
        { rec with body := .pool { b with waiters := b.waiters ++ [newWaiter b n timeout p r] } } =
        rec.tagCount q g + owed p r q g := by
      rw [Record.tagCount_eq, Record.tagCount_eq, hb]
      simp only [Body.waiters, List.map_append, List.map_cons, List.map_nil, List.count_append, List.count_singleton,
        Waiter.who, newWaiter, owed, beq_iff_eq, Prod.mk.injEq]
      omega
    rw [show answersTo q g [] = 0 from rfl] at h1
    omega
  | @hold rec hs hlive =>
    have h1 := State.tagCount_finishEvent hm hs
      { rec with state := .closing, held := .pending p r.tag, body := rec.body.withoutWaiters } (closedResponses rec.body) g
    have habs : rec.held = .absent := (hl _ _ hs).1.1 hlive
    have h2 : rec.tagCount q g = answersTo q g (closedResponses rec.body) := by
      rw [← answersTo_closing q g rec .done, answersTo_append, habs]; rfl
    have h3 : Record.tagCount q g
        { rec with state := .closing, held := .pending p r.tag, body := rec.body.withoutWaiters } = owed p r q g := by
      rw [Record.tagCount_eq, waiters_withoutWaiters]
      simp [HeldRetire.tagCount, owed, HeldRetire.pending.injEq]
    omega
  | @retire rec hs =>
    have h1 := State.tagCount_emptySlot (c := .done) hm hs rec g
    have hm' : ((u.emptySlot r.target rec rec .done).port q).mode ≠ .draining := by
      obtain ⟨more, he⟩ := State.port_emptySlot_tail q r.target rec rec .done u
      rwa [he]
    rw [State.tagCount_reply hm']
    omega
  | own hs | watch _ hs =>
    rw [State.tagCount_reply (s := u.writeRecord _ _) hm]
    congr 1
    refine State.tagCount_writeRecord ?_
    rw [tagCount_of_record hs, Record.tagCount_eq, Record.tagCount_eq]
  | @assign rec line hs =>
    rw [State.tagCount_reply (by simpa using hm)]
    congr 1
    refine (State.tagCount_writeRecord ?_).trans (State.tagCount_congr (by simp) (by simp) (by simp) g)
    rw [tagCount_of_record (r := rec) (by simpa using hs), Record.tagCount_eq, Record.tagCount_eq]
  | @create i body _ hb _ he =>
    have hn : (u.slot i).record = none := by simpa using List.find?_some he
    rw [State.tagCount_reply (s := u.writeRecord _ _) hm]
    congr 1
    refine State.tagCount_writeRecord ?_
    rw [tagCount_of_none hn, Record.tagCount_eq,
      show (newRecord (r.word 1) p body).body.waiters = [] from waiters_createBody hb]
    rfl
  | @notice e rest => exact State.tagCount_reply (s := { u with changed := u.changed.set p.val rest }) hm g

/-! ### The law for one port -/

/-- The law of the tags of port `p`, by how often each stands. -/
def State.tagsAt (p : Port) (s : State) : Prop :=
  (∀ g, s.tagCount p g = (s.port p).outstanding.count g) ∧ (s.port p).outstanding.Nodup ∧ (s.port p).outstanding.length ≤ 8

theorem tagsAccounted_iff {s : State} : s.tagsAccounted ↔ ∀ p, s.tagsAt p := by
  refine forall_congr' fun p => and_congr_left fun _ => ?_
  rw [List.perm_iff_count]
  simp only [State.count_tagsOf]

theorem State.tagsAt_congr {s t : State} {p : Port} (ho : (t.port p).outstanding = (s.port p).outstanding)
    (hc : ∀ g, t.tagCount p g = s.tagCount p g) (h : s.tagsAt p) : t.tagsAt p := by
  obtain ⟨h1, h2⟩ := h
  unfold State.tagsAt
  rw [ho]
  exact ⟨fun g => (hc g).trans (h1 g), h2⟩

/-- A port that has withdrawn has no tag. -/
theorem State.tagsAt_of_gone {p : Port} {s : State} (hw : s.withdrawnAt p) (hg : s.gone p) : s.tagsAt p := by
  obtain ⟨hi, ho, hr, -, hq⟩ := hw.1 hg
  have hslot : ∀ (g : Tag) (i : Slot), (s.slot i).tagCount p g = 0 := fun g i => by
    cases hrec : (s.slot i).record with
    | none => exact tagCount_of_none hrec
    | some r =>
      rw [tagCount_of_record hrec, Record.tagCount_eq]
      obtain ⟨-, hh, hws⟩ := hq i r hrec
      have h1 : (r.body.waiters.map Waiter.who).count (p, g) = 0 := List.count_eq_zero.2 fun hm => by
        obtain ⟨w, hw, he⟩ := List.mem_map.1 hm
        exact hws w hw (congrArg Prod.fst he)
      rw [h1, HeldRetire.tagCount, if_neg (hh g)]
  refine ⟨fun g => ?_, by rw [ho]; exact List.nodup_nil, by rw [ho]; exact Nat.zero_le _⟩
  unfold State.tagCount
  rw [hi, ho, hr]
  have : (s.slots.toList.map (SlotState.tagCount p g)).sum = 0 := by
    refine List.sum_eq_zero fun n hn => ?_
    obtain ⟨x, hx, rfl⟩ := List.mem_map.1 hn
    obtain ⟨i, hi, rfl⟩ := List.getElem_of_mem hx
    exact hslot g ⟨i, by simpa using hi⟩
  rw [this]
  rfl

/-! ### Each event keeps the tags -/

theorem State.mode_finishEvent (q : Port) (i : Slot) (r0 r1 : Record) (rs : List (Port × Response)) (s : State) :
    ((s.finishEvent i r0 r1 rs).port q).mode = (s.port q).mode := by
  obtain ⟨more, h⟩ := State.port_finishEvent_tail q i r0 r1 rs s
  rw [h]

theorem State.outstanding_finishEvent (q : Port) (i : Slot) (r0 r1 : Record) (rs : List (Port × Response)) (s : State) :
    ((s.finishEvent i r0 r1 rs).port q).outstanding = (s.port q).outstanding := by
  obtain ⟨more, h⟩ := State.port_finishEvent_tail q i r0 r1 rs s
  rw [h]

/-- An event on a body answers each waiter that leaves it, so the tags are as before. -/
theorem State.tagsAt_body {p : Port} {i : Slot} {rec r1 : Record} {rs : List (Port × Response)} {free : Nat}
    {taker : Option Port} {s : State} (hm : (s.port p).mode ≠ .draining) (hs : (s.slot i).record = some rec)
    (hb : BodyEvent free taker rec.body r1.body rs) (hh : r1.held = rec.held) (h : s.tagsAt p) :
    (s.finishEvent i rec r1 rs).tagsAt p := by
  refine State.tagsAt_congr (State.outstanding_finishEvent ..) (fun g => ?_) h
  have h1 := State.tagCount_finishEvent hm hs r1 rs g
  have h2 := hb.tagCount p g
  have h3 : r1.tagCount p g = Record.tagCount p g { rec with body := r1.body } := by
    rw [Record.tagCount_eq, Record.tagCount_eq, hh]
  omega

/-- A tag that an accepted submission takes up was not outstanding, and fewer than eight were (R137). -/
theorem tag_of_accepted {p : Port} {w : Word} {s : State} (h : s.refusalOf p w = none) :
    headerTag w ∉ (s.port p).outstanding ∧ (s.port p).outstanding.length < 8 := by
  unfold State.refusalOf at h
  split at h
  · cases h
  split at h
  · cases h
  split at h
  · cases h
  split at h
  · cases h
  split at h
  · cases h
  next ht =>
    split at h
    · cases h
    next hl => exact ⟨ht, Nat.not_le.1 hl⟩

/-- A tag taken up joins the outstanding ones and one of the four places (R140, R141). -/
theorem State.tagsAt_takeUp {p : Port} {s t : State} {g : Tag} (ho : (t.port p).outstanding = (s.port p).outstanding ++ [g])
    (hc : ∀ g', t.tagCount p g' = s.tagCount p g' + if g = g' then 1 else 0) (hn : g ∉ (s.port p).outstanding)
    (hl : (s.port p).outstanding.length < 8) (h : s.tagsAt p) : t.tagsAt p := by
  obtain ⟨h1, h2, -⟩ := h
  unfold State.tagsAt
  rw [ho]
  refine ⟨fun g' => ?_, ?_, by simp; omega⟩
  · rw [hc, h1, List.count_append, List.count_singleton]
    simp only [beq_iff_eq]
  · exact List.nodup_append.2 ⟨h2, List.nodup_singleton g, fun a ha b hb => by
      rw [List.mem_singleton.1 hb]; rintro rfl; exact hn ha⟩

theorem State.tagsAt_submit {p : Port} (w : Word) {s : State} (h : s.tagsAt p) : (s.submit p w).tagsAt p := by
  have hport : (s.submit p w).port p = (s.port p).submit w (s.refusalOf p w) := by simp [State.submit]
  have hslots : (s.submit p w).slots = s.slots := rfl
  cases hr : s.refusalOf p w with
  | some reason =>
    rw [hr] at hport
    exact State.tagsAt_congr (by rw [hport]; rfl) (State.tagCount_congr (by rw [hport]; rfl) (by rw [hport]; rfl) hslots) h
  | none =>
    obtain ⟨hn, hl⟩ := tag_of_accepted hr
    rw [hr] at hport
    cases hc : headerCode w with
    | none =>
      have hp' : (s.submit p w).port p = (s.port p).clearStaging := by rw [hport, PortState.submit, hc]
      exact State.tagsAt_congr (by rw [hp']; rfl) (State.tagCount_congr (by rw [hp']; rfl) (by rw [hp']; rfl) hslots) h
    | some c =>
      by_cases hat : c = .attach
      · subst hat
        have hp' : (s.submit p w).port p = (s.port p).acceptAttach (headerTag w) := by rw [hport, PortState.submit, hc]
        refine State.tagsAt_takeUp (g := headerTag w) (by rw [hp']; rfl) (fun g' => ?_) hn hl h
        unfold State.tagCount
        rw [hp', hslots]
        simp only [PortState.acceptAttach, PortState.clearStaging, List.map_append, List.count_append, List.map_cons,
          List.map_nil, List.count_singleton, beq_iff_eq]
        omega
      · have hp' : (s.submit p w).port p = (s.port p).accept c (headerTag w) := by
          rw [hport, PortState.submit, hc]
          cases c with
          | attach => exact absurd rfl hat
          | _ => rfl
        refine State.tagsAt_takeUp (g := headerTag w) (by rw [hp']; rfl) (fun g' => ?_) hn hl h
        unfold State.tagCount
        rw [hp', hslots]
        simp only [PortState.accept, PortState.clearStaging, List.map_append, List.count_append, List.map_cons,
          List.map_nil, List.count_singleton, beq_iff_eq]
        omega

/-- A read of a response: the position advances, and at the last word the response and its tag go (R144). -/
theorem PortState.readResponse_cons {q : PortState} {r : Response} {rest : List Response} (h : q.responses = r :: rest) :
    q.readResponse =
      if q.readPos < r.data.length then { q with dataOut := q.responseWord, readPos := q.readPos + 1 }
      else { q with dataOut := q.responseWord, responses := rest, readPos := 0,
                    outstanding := q.outstanding.filter (· != r.tag) } := by
  obtain ⟨mode, staging, overflow, intake, outstanding, responses, readPos⟩ := q
  dsimp only at h
  subst h
  rfl

/-- The last word of a response gives its tag back (R144). -/
theorem State.tagsAt_readResponse {p : Port} {s : State} (h : s.tagsAt p) :
    (s.modifyPort p PortState.readResponse).tagsAt p := by
  have hport : (s.modifyPort p PortState.readResponse).port p = (s.port p).readResponse := by simp
  have hslots : (s.modifyPort p PortState.readResponse).slots = s.slots := rfl
  have hsame : (s.port p).readResponse.outstanding = (s.port p).outstanding →
      (s.port p).readResponse.intake = (s.port p).intake → (s.port p).readResponse.responses = (s.port p).responses →
      (s.modifyPort p PortState.readResponse).tagsAt p := fun h1 h2 h3 =>
    State.tagsAt_congr (by rw [hport, h1]) (State.tagCount_congr (by rw [hport, h2]) (by rw [hport, h3]) hslots) h
  cases hr : (s.port p).responses with
  | nil => rw [PortState.readResponse_empty hr] at hsame; exact hsame rfl rfl rfl
  | cons r rest =>
    have hread := PortState.readResponse_cons hr
    split at hread
    · rw [hread] at hsame; exact hsame rfl rfl rfl
    · obtain ⟨h1, h2, h3⟩ := h
      have hcount : ∀ g, (s.modifyPort p PortState.readResponse).tagCount p g + (if r.tag = g then 1 else 0) =
          s.tagCount p g := fun g => by
        unfold State.tagCount
        rw [hport, hread, hslots, hr]
        simp only [List.map_cons, List.count_cons, beq_iff_eq]
        omega
      unfold State.tagsAt
      rw [hport, hread]
      refine ⟨fun g => ?_, h2.filter _, (List.length_filter_le _ _).trans h3⟩
      have hc := hcount g
      rw [h1] at hc
      by_cases hg : r.tag = g
      · subst hg
        have hle : (s.port p).outstanding.count r.tag ≤ 1 := List.nodup_iff_count_le_one.1 h2 _
        have hz : ((s.port p).outstanding.filter (· != r.tag)).count r.tag = 0 := List.count_eq_zero.2 (by simp)
        simp only [if_true] at hc
        rw [hz]
        omega
      · have hk : ((s.port p).outstanding.filter (· != r.tag)).count g = (s.port p).outstanding.count g :=
          List.count_filter (by simpa using fun h => hg h.symm)
        simp only [hg, if_false] at hc
        rw [hk]
        omega

/-- The tags a slot keeps when each record keeps those it kept. -/
theorem State.tagCount_map {f : SlotState → SlotState} {s t : State} {p : Port} {g : Tag} (hp : t.port p = s.port p)
    (ht : t.slots = s.slots.map f) (hf : ∀ x, (f x).tagCount p g = x.tagCount p g) : t.tagCount p g = s.tagCount p g := by
  unfold State.tagCount
  rw [hp, ht, Vector.toList_map, List.map_map,
    show SlotState.tagCount p g ∘ f = SlotState.tagCount p g from funext hf]

theorem tagCount_countDown (p : Port) (g : Tag) (x : SlotState) : x.countDown.tagCount p g = x.tagCount p g := by
  cases hr : x.record with
  | none => rw [tagCount_of_none hr, tagCount_of_none (by simp [SlotState.countDown, hr])]
  | some r =>
    rw [tagCount_of_record hr, tagCount_of_record (r := { r with body := r.body.countDown })
      (by simp [SlotState.countDown, hr]), Record.tagCount_eq, Record.tagCount_eq]
    congr 2
    cases r.body with
    | pool b =>
      show (b.waiters.map Waiter.countDown).map Waiter.who = b.waiters.map Waiter.who
      rw [List.map_map]; rfl
    | _ => rfl

theorem tagCount_forget {p q : Port} (hpq : p ≠ q) (g : Tag) (x : SlotState) :
    (x.forget p).tagCount q g = x.tagCount q g := by
  cases hr : x.record with
  | none => rw [tagCount_of_none hr, tagCount_of_none (by simp [SlotState.forget, hr])]
  | some r =>
    rw [tagCount_of_record hr, tagCount_of_record (r := r.forget p) (by simp [SlotState.forget, hr]), Record.tagCount_eq,
      Record.tagCount_eq]
    congr 1
    unfold HeldRetire.tagCount
    have : (r.forget p).held = .pending q g ↔ r.held = .pending q g :=
      discardOf_eq_pending.trans (and_iff_left (Ne.symm hpq))
    simp only [this]

theorem State.tagsAt_enterDraining_ne {p q : Port} (hpq : p ≠ q) {s : State} (hm : (s.port q).mode ≠ .draining)
    (h : s.tagsAt q) : (s.enterDraining p).tagsAt q := by
  have hq : (s.modifyPort p (PortState.cleared .draining)).port q = s.port q := State.port_modifyPort_ne hpq _ s
  have h1 : (s.modifyPort p (PortState.cleared .draining)).tagsAt q :=
    State.tagsAt_congr (s := s) (by rw [hq]) (State.tagCount_congr (by rw [hq]) (by rw [hq]) rfl) h
  have h2 := State.dropWaiters_induction (p := p) (P := fun u => (u.port q).mode ≠ .draining ∧ u.tagsAt q)
    (fun u i rec b ⟨hum, hu⟩ hr hb _ => by
      refine ⟨by rwa [State.mode_finishEvent], State.tagsAt_congr (State.outstanding_finishEvent ..) (fun g => ?_) hu⟩
      have h3 := State.tagCount_finishEvent hum hr { rec with body := .pool (b.endWaiters (ofPort p)).cascade.1 }
        (b.endWaiters (ofPort p)).cascade.2 g
      have h4 : Record.tagCount q g { rec with body := .pool (b.endWaiters (ofPort p)).cascade.1 } +
          answersTo q g (b.endWaiters (ofPort p)).cascade.2 = rec.tagCount q g := by
        have h5 := congrArg (List.count (q, g)) (who_cascade (b.endWaiters (ofPort p)))
        rw [who_endWaiters, List.count_append] at h5
        have h6 : ((b.waiters.filter fun w => !ofPort p w).map Waiter.who).count (q, g) =
            (b.waiters.map Waiter.who).count (q, g) := by
          rw [← count_tags_of_port, ← count_tags_of_port, List.filter_filter]
          congr 3
          funext w
          by_cases hw : w.port = q
          · simp [ofPort, hw, Ne.symm hpq]
          · simp [hw]
        rw [Record.tagCount_eq, Record.tagCount_eq, hb, answersTo_eq]
        simp only [Body.waiters]
        omega
      omega) ⟨by rwa [hq], h1⟩
  have hport : (s.enterDraining p).port q = ((s.modifyPort p (PortState.cleared .draining)).dropWaiters p).port q := by
    simp [State.port, State.ports_enterDraining]
  exact State.tagsAt_congr (by rw [hport])
    (fun g => State.tagCount_map hport (State.slots_enterDraining p s) (tagCount_forget hpq g)) h2.2

theorem State.tagsAt_modifyPort_ne {p q : Port} (hpq : p ≠ q) (f : PortState → PortState) {s : State} (h : s.tagsAt q) :
    (s.modifyPort p f).tagsAt q := by
  have hp := State.port_modifyPort_ne hpq f s
  exact State.tagsAt_congr (s := s) (by rw [hp]) (State.tagCount_congr (by rw [hp]) (by rw [hp]) rfl) h

/-- A write of a port's own state that leaves its queues and its tags keeps the law. -/
theorem State.tagsAt_modifyPort {p q : Port} {f : PortState → PortState} {s : State}
    (ho : (f (s.port p)).outstanding = (s.port p).outstanding) (hi : (f (s.port p)).intake = (s.port p).intake)
    (hr : (f (s.port p)).responses = (s.port p).responses) (h : s.tagsAt q) : (s.modifyPort p f).tagsAt q := by
  by_cases hpq : p = q
  · subst hpq
    have hp : (s.modifyPort p f).port p = f (s.port p) := by simp
    exact State.tagsAt_congr (s := s) (by rw [hp, ho]) (State.tagCount_congr (by rw [hp, hi]) (by rw [hp, hr]) rfl) h
  · exact State.tagsAt_modifyPort_ne hpq f h

/-- An act keeps the tags of a port that has not withdrawn after it. -/
theorem tagsAt_act {s t : State} {q : Port} (h : s.requestsAccounted) (ha : Act s t) (hgone : ¬t.gone q) : t.tagsAt q := by
  obtain ⟨htags, hlife, hwith, hidle⟩ := h
  have hq := tagsAccounted_iff.1 htags q
  cases ha with
  | endSelfCheck hc =>
    refine absurd (.inl ?_) hgone
    rw [(State.sparesPort_endSelfCheck q s).mode]
    exact (hidle.1 (by rw [hc]; nofun)).2.1 q
  | stage p w =>
    have hf : ∀ u : PortState, (u.stage w).outstanding = u.outstanding ∧ (u.stage w).intake = u.intake ∧
        (u.stage w).responses = u.responses := fun u => by
      unfold PortState.stage; split <;> exact ⟨rfl, rfl, rfl⟩
    obtain ⟨h1, h2, h3⟩ := hf (s.port p)
    exact State.tagsAt_modifyPort h1 h2 h3 hq
  | submit p w =>
    by_cases hpq : p = q
    · exact hpq ▸ State.tagsAt_submit w (hpq ▸ hq)
    · exact State.tagsAt_modifyPort_ne hpq _ hq
  | readResponse p =>
    by_cases hpq : p = q
    · subst hpq; exact State.tagsAt_readResponse hq
    · exact State.tagsAt_modifyPort_ne hpq _ hq
  | control p w => exact State.tagsAt_modifyPort rfl rfl rfl hq
  | fence p _ | unfence p _ => exact State.tagsAt_modifyPort rfl rfl rfl hq
  | @request p c r rest t hat he =>
    obtain ⟨more, hm⟩ := he.port_tail q
    have hmode : ((s.turnTaken p rest).port q).mode ≠ .draining := fun hd => hgone (.inr (by rw [hm]; exact hd))
    have hlife' : (s.turnTaken p rest).lifecycles := State.everyRecord_congr rfl hlife
    refine State.tagsAt_congr (s := s) ?_ (fun g => ?_) hq
    · rw [hm, State.port_turnTaken]
      split
      next hpq => rw [← hpq]
      · rfl
    · rw [he.tagCount hlife' hmode g, State.tagCount_turnTaken hat q g]
  | body hs hb =>
    refine State.tagsAt_body (fun hd => hgone (.inr ?_)) hs hb rfl hq
    rwa [State.mode_finishEvent]
  | @empty i rec result hs =>
    obtain ⟨more, hm⟩ := State.port_emptySlot_tail q i rec rec result s
    have hmode : (s.port q).mode ≠ .draining := fun hd => hgone (.inr (by rw [hm]; exact hd))
    refine State.tagsAt_congr (by rw [hm]) (fun g => ?_) hq
    have := State.tagCount_emptySlot (c := result) hmode hs rec g
    omega
  | countDown => exact State.tagsAt_congr (s := s) rfl (fun g => State.tagCount_map rfl rfl (tagCount_countDown q g)) hq
  | @enterDraining p _ =>
    by_cases hpq : p = q
    · subst hpq
      exact absurd (.inr (by rw [State.port_enterDraining_self]; rfl)) hgone
    · refine State.tagsAt_enterDraining_ne hpq (fun hd => hgone (.inr ?_)) hq
      have h1 : ((s.modifyPort p (PortState.cleared .draining)).port q).mode = .draining := by
        rwa [State.port_modifyPort_ne hpq]
      have h2 := State.port_dropWaiters_draining (p := p) h1
      rw [show (s.enterDraining p).port q = ((s.modifyPort p (PortState.cleared .draining)).dropWaiters p).port q by
        simp [State.port, State.ports_enterDraining], h2, h1]
  | @clearOffline p _ =>
    by_cases hpq : p = q
    · subst hpq
      exact absurd (.inl (by simp [PortState.cleared])) hgone
    · exact State.tagsAt_modifyPort_ne hpq _ hq
  | @walk p hw =>
    have hmode : (s.port q).mode ≠ .draining := fun hd => by
      have h1 := (State.sparesPort_reclaimSlot q p (Fin.ofNat 256 s.cursors[p.val]) s).mode.trans hd
      unfold State.gone at hgone
      rw [State.port_advanceCursor] at hgone
      split at hgone
      · exact hgone (.inl rfl)
      · exact hgone (.inr h1)
    have h1 : (s.reclaimSlot p (Fin.ofNat 256 s.cursors[p.val])).tagsAt q := by
      unfold State.reclaimSlot
      split
      · exact hq
      next r hs => exact State.tagsAt_body hmode hs (bodyEvent_reclaim 0 none p r.body) rfl hq
    have h2 : ∀ (n : Nat) (u : State), ((u.advanceCursor p n).port q).outstanding = (u.port q).outstanding ∧
        ((u.advanceCursor p n).port q).intake = (u.port q).intake ∧
        ((u.advanceCursor p n).port q).responses = (u.port q).responses := fun n u => by
      rw [State.port_advanceCursor]; split <;> exact ⟨rfl, rfl, rfl⟩
    obtain ⟨ho, hi, hr⟩ := h2 s.cursors[p.val] (s.reclaimSlot p (Fin.ofNat 256 s.cursors[p.val]))
    exact State.tagsAt_congr ho (State.tagCount_congr hi hr (State.slots_advanceCursor ..)) h1

theorem requestsAccounted_event {s t : State} (h : s.requestsAccounted) (he : Event s t) : t.requestsAccounted := by
  have hall := h
  obtain ⟨htags, hlife, hwith, hidle⟩ := hall
  have hwith' := withdrawn_event hwith he
  refine ⟨tagsAccounted_iff.2 fun q => ?_, fun j r hr => (he.recordMove hr).lifecycle hlife, hwith',
    idleUnlessReady_event hidle he⟩
  by_cases hgone : t.gone q
  · exact State.tagsAt_of_gone (hwith' q) hgone
  cases he with
  | device hd =>
    obtain ⟨hp, hs, -⟩ := hd
    have hport : t.port q = s.port q := by simp [State.port, hp]
    exact State.tagsAt_congr (by rw [hport]) (State.tagCount_congr (by rw [hport]) (by rw [hport]) hs)
      (tagsAccounted_iff.1 htags q)
  | deviceReset a => exact absurd (.inl (congrArg PortState.mode (State.port_reset q))) hgone
  | act _ ha => exact tagsAt_act h ha hgone

end Sys2Proof.Machine

namespace Sys2Proof.Proofs

open Sys2Proof.Machine

/-- Settles O58: a port that has withdrawn has no tag, and each event moves the tags of another between the four places, or takes
one up or gives one back together with the outstanding ones. -/
theorem requestsStayAccounted : Obligations.RequestsStayAccounted := fun _ _ hs h =>
  step_keeps (P := State.requestsAccounted) (fun _ _ hs he => requestsAccounted_event hs he) hs h

end Sys2Proof.Proofs
end

section
/-! The step, reset and the self-check (O1 to O4), the attention outputs (O48), and the laws at reset (O60). -/

namespace Sys2Proof.Machine

/-! ### The step on an empty queue -/

theorem step_idle {s : State} (h : s.pending = []) : step s = .next s.tick := by
  unfold step; rw [h]

theorem step_front {s : State} {c : Instr} {rest : List Instr} (h : s.pending = c :: rest) :
    step s = exec c { s with pending := rest } := by
  unfold step; rw [h]

/-- A command that takes a request does so through its port's turn alone. -/
theorem exec_taken {p : Port} {c : ReqCode} {i : Instr} (h : ReqCode.taken p c = some i) :
    ∃ take : Port → Request → State → State, ∀ s : State, exec i s = .next (s.onTurn p c take) := by
  cases c <;> cases h <;> exact ⟨_, fun _ => rfl⟩

/-! ### The self-check -/

theorem State.checking_iff {s : State} : s.checking = true ↔ s.resetAsserted = false ∧ s.condition = .checking := by
  simp [State.checking]

theorem exec_wordFailed_checking {s : State} (hr : s.resetAsserted = false) (hc : s.condition = .checking) (a : Area) :
    exec (.selfCheck (.wordFailed a)) s = .next { s with failedAreas := s.failedAreas.add a } := by
  change Host.Outcome.next (if s.checking then _ else _) = _
  rw [if_pos (State.checking_iff.2 ⟨hr, hc⟩)]

theorem FailedAreas.any_eq_false {f : FailedAreas} : f.any = false ↔ f = ⟨false, false, false⟩ := by
  obtain ⟨a, b, c⟩ := f
  simp [FailedAreas.any, and_assoc]

theorem exec_selfCheckEnd_checking {s : State} (hr : s.resetAsserted = false) (hc : s.condition = .checking) :
    exec .selfCheckEnd s = .next s.endSelfCheck := by
  change Host.Outcome.next (if s.checking then _ else _) = _
  rw [if_pos (State.checking_iff.2 ⟨hr, hc⟩)]

/-! ### The attention outputs -/

/-- Two masks meet when they have a bit in common. -/
theorem and_ne_zero_iff {w : Nat} (x y : BitVec w) :
    x &&& y ≠ 0 ↔ ∃ n : Fin w, x.getLsbD n.val = true ∧ y.getLsbD n.val = true := by
  constructor
  · intro h
    by_contra hne
    refine h (BitVec.eq_of_getLsbD_eq fun n hn => ?_)
    simp only [BitVec.getLsbD_and, BitVec.ofNat_eq_ofNat, BitVec.getLsbD_zero]
    by_contra hb
    rw [Bool.not_eq_false, Bool.and_eq_true] at hb
    exact hne ⟨⟨n, hn⟩, hb⟩
  · rintro ⟨n, hx, hy⟩ h
    have hb : (x &&& y).getLsbD n.val = true := by rw [BitVec.getLsbD_and, hx, hy]; rfl
    rw [h] at hb
    simp at hb

theorem attnAsserted_iff (s : State) (p : Port) : s.attnAsserted p = true ↔
    ((s.port p).responses ≠ [] ∧ (s.port p).responseEnable = true) ∨
      (s.changed[p.val] ≠ [] ∧ (s.port p).noticeEnable = true) := by
  simp [State.attnAsserted, State.responseCondition, State.noticeCondition, State.port]

theorem mattnAsserted_iff (s : State) : s.mattnAsserted = true ↔
    ∃ n : Fin 8, s.mattnReasons.getLsbD n.val = true ∧ s.mattnMask.getLsbD n.val = true := by
  rw [← and_ne_zero_iff]
  simp [State.mattnAsserted]

theorem lineDrivenLow_iff (s : State) (x : LineNo) : s.lineDrivenLow x = true ↔ s.lineCounts[x.val] ≠ 0 := by
  simp [State.lineDrivenLow, Nat.pos_iff_ne_zero]

/-! ### The laws at reset -/

theorem everyRecord_reset (P : Record → Prop) : State.reset.everyRecord P := fun i r hr => by
  rw [State.slot_reset] at hr; cases hr

theorem withdrawn_reset : State.reset.withdrawn := fun p =>
  State.withdrawnAt_of_empty (fun i => congrArg SlotState.record (State.slot_reset i)) (State.port_reset p)
    (by simp [State.reset])

theorem idleUnlessReady_reset : State.reset.idleUnlessReady :=
  ⟨fun _ => ⟨fun i => congrArg SlotState.record (State.slot_reset i), fun p => congrArg PortState.mode (State.port_reset p),
    rfl, rfl, rfl⟩, fun p h => by rw [State.port_reset] at h; cases h⟩

theorem linesCounted_reset : State.reset.linesCounted := by
  refine ⟨fun x => ?_, fun _ i => congrArg SlotState.record (State.slot_reset i)⟩
  have h : State.reset.slots.toList = List.replicate 256 SlotState.reset := by simp [State.reset]
  rw [h, List.countP_replicate, if_neg (by simp [SlotState.contributesTo, SlotState.reset])]
  simp [State.reset]

end Sys2Proof.Machine

namespace Sys2Proof.Proofs

open Sys2Proof.Machine

/-- Settles O1: by the definition of the step. -/
theorem stepRunsFrontCommand : Obligations.StepRunsFrontCommand := fun _ _ _ => step_front rfl

/-- Settles O2: a request's command does what it does at its turn alone, and an empty queue is a period of REFCLK. -/
theorem idleStepsAndEventsOutOfPlace : Obligations.IdleStepsAndEventsOutOfPlace := by
  refine ⟨fun s hp => ?_, fun s p c i hi hn => ?_, fun s ht => ?_⟩
  · rw [step_idle hp, State.tick]
    refine ⟨fun hr => by rw [if_pos hr], fun hr hl => ?_, fun hr hl => ?_⟩
    · have hl' : s.unitPos + 1 < s.waitUnit.periods := hl
      rw [if_neg (by simp [hr]), if_pos hl']
    · have hl' : s.waitUnit.periods ≤ s.unitPos + 1 := hl
      rw [if_neg (by simp [hr]), if_neg (Nat.not_lt.2 hl')]
      change _ = Host.Outcome.next (if s.resetAsserted then s else s.boundary)
      rw [if_neg (by simp [hr])]
  · obtain ⟨take, ht⟩ := exec_taken hi
    rw [ht, State.onTurn_not hn]
  · change Host.Outcome.next s.walkTurn = _
    rw [State.walkTurn, if_neg ht]

/-- Settles O3: the reset values field by field; both resets take them all. -/
theorem deviceResetGivesResetValues : Obligations.DeviceResetGivesResetValues := by
  refine ⟨⟨fun p => ?_, State.slot_reset, fun x => by simp [State.reset], rfl, rfl, rfl, rfl, rfl, rfl, rfl, rfl, rfl, rfl,
    rfl, rfl⟩, ⟨fun p => ?_, by decide, fun x => ?_, rfl⟩, fun s => ⟨rfl, fun held => rfl⟩⟩
  · rw [State.port_reset]
    exact ⟨rfl, rfl, rfl, rfl, rfl, rfl, rfl, rfl, rfl, rfl, rfl, rfl, rfl, by simp [State.reset], by simp [State.reset]⟩
  · refine Bool.eq_false_iff.2 fun h => ?_
    rw [attnAsserted_iff, State.port_reset] at h
    rcases h with ⟨h, -⟩ | ⟨h, -⟩
    · exact h rfl
    · exact h (by simp [State.reset])
  · refine Bool.eq_false_iff.2 fun h => ?_
    rw [lineDrivenLow_iff] at h
    exact h (by simp [State.reset])

/-- Settles O4: a failed word counts within the pass alone, and the end of the pass turns on whether one has failed. -/
theorem selfCheckPassAndEnd : Obligations.SelfCheckPassAndEnd := by
  refine ⟨fun s => ⟨rfl, fun hr hc => ⟨exec_wordFailed_checking hr hc .slot, exec_wordFailed_checking hr hc .holding,
    exec_wordFailed_checking hr hc .waiter⟩, fun hc a => ?_⟩, fun s hr hc => ⟨fun hf => ?_, fun hf => ?_⟩⟩
  · change Host.Outcome.next (if s.checking then _ else _) = _
    rw [if_neg fun h => hc (State.checking_iff.1 h).2]
  · rw [exec_selfCheckEnd_checking hr hc, State.endSelfCheck, FailedAreas.any_eq_false.2 hf]
    rfl
  · have ha : s.failedAreas.any = true := Bool.of_not_eq_false fun h => hf (FailedAreas.any_eq_false.1 h)
    rw [exec_selfCheckEnd_checking hr hc, State.endSelfCheck, ha]
    rfl

/-- Settles O48: each output by its conditions; MATTN by a bit that the reasons and the mask have in common. -/
theorem attentionFollowsItsConditions : Obligations.AttentionFollowsItsConditions := fun s =>
  ⟨attnAsserted_iff s, mattnAsserted_iff s, lineDrivenLow_iff s⟩

/-- Settles O60: at reset no record stands, every port is OFFLINE with nothing of its own, and every entry is free. -/
theorem lawsHoldAfterReset : Obligations.LawsHoldAfterReset := by
  refine ⟨everyRecord_reset _, everyRecord_reset _, fun i j a b ha => ?_, everyRecord_reset _, entriesAccounted_reset rfl rfl rfl,
    linesCounted_reset, fun p => by simp [State.reset], fun p => State.port_reset p ▸ PortState.bounded_reset,
    withdrawn_reset, ⟨?_, everyRecord_reset _, withdrawn_reset, idleUnlessReady_reset⟩, idleUnlessReady_reset, fun h => ?_⟩
  · rw [State.slot_reset] at ha; cases ha
  · exact tagsAccounted_iff.2 fun p =>
      State.tagsAt_of_gone (withdrawn_reset p) (.inl (congrArg PortState.mode (State.port_reset p)))
  · cases h

end Sys2Proof.Proofs
end

section
/-! The accesses of the port window (O5 to O8, O10, O11): each is a write of its port's own state. -/

namespace Sys2Proof.Machine

/-! ### The accesses -/

theorem State.outOfReset_released {s : State} (h : s.resetAsserted = false) (f : State → State) : s.outOfReset f = f s := by
  simp [State.outOfReset, h]

theorem exec_stageWrite {s : State} (h : s.resetAsserted = false) (p : Port) (w : Word) :
    exec (.stageWrite p w) s = .next (s.modifyPort p (PortState.stage w)) :=
  congrArg Host.Outcome.next (State.outOfReset_released h _)

theorem exec_submission {s : State} (h : s.resetAsserted = false) (p : Port) (w : Word) :
    exec (.submission p w) s = .next (s.submit p w) :=
  congrArg Host.Outcome.next (State.outOfReset_released h _)

theorem exec_attach {s : State} (h : s.resetAsserted = false) (p : Port) (tag : Tag) :
    exec (.attach p tag) s = .next (s.submit p (headerWord .attach tag)) :=
  congrArg Host.Outcome.next (State.outOfReset_released h _)

/-! ### The header word and the word counts (10.2, R138) -/

theorem headerLowZero_iff (w : Word) : headerLowZero w = true ↔ w.toNat % 64 = 0 := by
  rw [headerLowZero, beq_iff_eq, ← BitVec.toNat_inj]
  simp [BitVec.extractLsb'_toNat]

theorem ofCode_eq_some (c : ReqCode) : ∀ n : Fin 64, ReqCode.ofCode n.val = some c ↔ n.val = c.code := by
  cases c <;> decide

theorem ofCode_eq_none : ∀ n : Fin 64, ReqCode.ofCode n.val = none ↔
    n.val ∈ [0x00, 0x06, 0x15, 0x16, 0x17, 0x1C, 0x1D, 0x1E, 0x1F, 0x25, 0x26, 0x27] ∨ 0x2A ≤ n.val := by decide

theorem codeField_lt (w : Word) : w.toNat / 1024 < 64 := by have := w.isLt; omega

theorem headerCode_eq_some (w : Word) (c : ReqCode) : headerCode w = some c ↔ w.toNat / 1024 = c.code := by
  rw [headerCode_eq]
  exact ofCode_eq_some c ⟨_, codeField_lt w⟩

theorem headerCode_eq_none (w : Word) : headerCode w = none ↔
    w.toNat / 1024 ∈ [0x00, 0x06, 0x15, 0x16, 0x17, 0x1C, 0x1D, 0x1E, 0x1F, 0x25, 0x26, 0x27] ∨ 0x2A ≤ w.toNat / 1024 := by
  rw [headerCode_eq]
  exact ofCode_eq_none ⟨_, codeField_lt w⟩

theorem header_attach (tag : Tag) : headerCode (headerWord .attach tag) = some .attach ∧
    headerTag (headerWord .attach tag) = tag ∧ headerLowZero (headerWord .attach tag) = true := by
  revert tag; decide

/-- The words a CREATE needs, by the kind code of its first (R13). -/
theorem createCountOk_cons (w : Word) (ws : List Word) : createCountOk (w :: ws) = true ↔
    match w.toNat % 16 with
    | 1 => (w :: ws).length = 4
    | 2 => (w :: ws).length = 5
    | 3 => (w :: ws).length = 4
    | 4 => (w :: ws).length = 6
    | _ => 2 ≤ (w :: ws).length ∧ (w :: ws).length ≤ 6 := by
  unfold createCountOk
  dsimp only
  rw [kindCode_eq]
  match w.toNat % 16 with
  | 0 | 1 | 2 | 3 | 4 => simp [kindOfCode]
  | n + 5 => simp [kindOfCode]

/-! ### The checks of a submission (R137) -/

theorem State.submit_refused {p : Port} {w : Word} {s : State} {reason : RefusalReason}
    (h : s.refusalOf p w = some reason) : s.submit p w = { s with ports := s.ports.set p.val { s.port p with
      staging := [], overflow := false, refusalFlag := true, refusalReason := some reason, refusedTag := headerTag w } } := by
  rw [State.submit, h]; rfl

theorem State.refusalOf_checking {p : Port} {w : Word} {s : State} (h : s.condition = .checking) :
    s.refusalOf p w = some .notReady := by rw [State.refusalOf, if_pos h]

theorem State.refusalOf_failed {p : Port} {w : Word} {s : State} (h : s.condition = .failed) :
    s.refusalOf p w = some .fault := by rw [State.refusalOf, if_neg (by simp [h]), if_pos h]

/-- Of a READY device the port state is checked first. -/
theorem State.refusalOf_mode {p : Port} {w : Word} {s : State} (h : s.condition = .ready) {reason : RefusalReason}
    (hm : modeRefusal (s.port p).mode (headerCode w) = some reason) : s.refusalOf p w = some reason := by
  rw [State.refusalOf, if_neg (by simp [h]), if_neg (by simp [h]), hm]

/-- A port that admits the request goes on to the header, the tag and the number of outstanding requests. -/
theorem State.refusalOf_admitted {p : Port} {w : Word} {s : State} (h : s.condition = .ready)
    (hm : modeRefusal (s.port p).mode (headerCode w) = none) : s.refusalOf p w =
      if (s.port p).malformed w then some .malformed
      else if headerTag w ∈ (s.port p).outstanding then some .tagInUse
      else if 8 ≤ (s.port p).outstanding.length then some .full
      else none := by
  rw [State.refusalOf, if_neg (by simp [h]), if_neg (by simp [h]), hm]
  rfl

theorem modeRefusal_eq_none {mode : PortMode} {code : Option ReqCode} :
    modeRefusal mode code = none ↔ mode = .online ∨ (mode = .offline ∧ code = some .attach) := by
  cases mode <;> simp [modeRefusal]

theorem PortState.malformed_iff {q : PortState} {w : Word} : q.malformed w = true ↔
    headerLowZero w = false ∨ headerCode w = none ∨ q.overflow = true ∨
      ∃ c, headerCode w = some c ∧ wordCountOk c q.staging = false := by
  unfold PortState.malformed
  cases headerCode w with
  | none => simp
  | some c => simp [or_assoc]

/-! ### What an access leaves alone -/

/-- Every other port and every other block stays, and the port's mode stays too or goes from OFFLINE to ONLINE. -/
def State.touchesPort (p : Port) (s t : State) : Prop :=
  t = { s with ports := t.ports } ∧ (∀ q : Port, q ≠ p → t.port q = s.port q) ∧
  ((t.port p).mode = (s.port p).mode ∨ ((s.port p).mode = .offline ∧ (t.port p).mode = .online))

theorem State.touchesPort_refl (p : Port) (s : State) : s.touchesPort p s := ⟨rfl, fun _ _ => rfl, .inl rfl⟩

theorem State.touchesPort_modifyPort {p : Port} {f : PortState → PortState} {s : State}
    (h : (f (s.port p)).mode = (s.port p).mode ∨ ((s.port p).mode = .offline ∧ (f (s.port p)).mode = .online)) :
    s.touchesPort p (s.modifyPort p f) :=
  ⟨rfl, fun q hq => State.port_modifyPort_ne hq.symm f s, by simpa using h⟩

theorem State.touchesPort_outOfReset {p : Port} {f : State → State} {s : State} (h : s.touchesPort p (f s)) :
    s.touchesPort p (s.outOfReset f) := by
  unfold State.outOfReset
  split
  · exact State.touchesPort_refl p s
  · exact h

theorem State.touchesPort_stage (p : Port) (w : Word) (s : State) :
    s.touchesPort p (s.modifyPort p (PortState.stage w)) :=
  State.touchesPort_modifyPort (.inl (by unfold PortState.stage; split <;> rfl))

theorem State.touchesPort_control (p : Port) (w : Word) (s : State) : s.touchesPort p (s.writeControl p w) :=
  State.touchesPort_modifyPort (.inl rfl)

theorem State.touchesPort_submit (p : Port) (w : Word) (s : State) : s.touchesPort p (s.submit p w) := by
  refine State.touchesPort_modifyPort ?_
  unfold PortState.submit
  split
  · exact .inl rfl
  split
  · change (if (s.port p).mode = .offline then PortMode.online else (s.port p).mode) = _ ∨
      _ ∧ (if (s.port p).mode = .offline then PortMode.online else (s.port p).mode) = .online
    split
    next h => exact .inr ⟨h, rfl⟩
    · exact .inl rfl
  · exact .inl rfl
  · exact .inl rfl

theorem State.touchesPort_writeWindow (p : Port) (offset : BitVec 3) (w : Word) (s : State) :
    s.touchesPort p (s.writeWindow p offset w) := by
  unfold State.writeWindow
  split
  · exact State.touchesPort_stage p w s
  · exact State.touchesPort_submit p w s
  · exact State.touchesPort_control p w s
  · exact State.touchesPort_refl p s

theorem State.touchesPort_readResponse (p : Port) (s : State) : s.touchesPort p (s.modifyPort p PortState.readResponse) := by
  refine State.touchesPort_modifyPort (.inl ?_)
  unfold PortState.readResponse
  split
  · rfl
  split <;> rfl

/-! ### Turns -/

theorem State.givesTurns_iff {s : State} : s.givesTurns = true ↔ s.inService ∧ s.clear = none := by
  simp [State.givesTurns, State.inService]

theorem State.eligible_port_iff {s : State} {p : Port} :
    s.eligible (.port p) = true ↔ (s.port p).mode = .online ∧ (s.port p).intake ≠ [] := by
  simp [State.eligible]

theorem mem_allPorts (p : Port) : p ∈ allPorts := by revert p; decide

theorem State.eligible_walker_iff {s : State} :
    s.eligible .walker = true ↔ ∃ p : Port, (s.port p).mode = .draining ∧ s.cursors[p.val] < 256 := by
  simp only [State.eligible, List.any_eq_true, State.walking_iff]
  exact ⟨fun ⟨p, _, h⟩ => ⟨p, h⟩, fun ⟨p, h⟩ => ⟨p, mem_allPorts p, h⟩⟩

/-- The turn goes to the first eligible claimant in circle order (R150). -/
theorem State.turn_of_first {s : State} (hs : s.inService) (hc : s.clear = none) {n : Nat} {c : Claimant}
    (hn : (circleFrom s.rotation)[n]? = some c) (he : s.eligible c = true)
    (hf : ∀ (m : Nat) (d : Claimant), m < n → (circleFrom s.rotation)[m]? = some d → s.eligible d = false) :
    s.turn = some c := by
  rw [State.turn, if_pos (State.givesTurns_iff.2 ⟨hs, hc⟩), List.find?_eq_some_iff_getElem]
  obtain ⟨hlt, hget⟩ := List.getElem?_eq_some_iff.1 hn
  refine ⟨he, n, hlt, hget, fun m hm => ?_⟩
  rw [hf m _ hm (List.getElem?_eq_getElem (hm.trans hlt))]
  rfl

end Sys2Proof.Machine

namespace Sys2Proof.Proofs

open Sys2Proof.Machine

/-- Settles O5: a staged word joins a buffer with room and marks a full one; the other offsets are no write. -/
theorem stageAndIgnoredWrites : Obligations.StageAndIgnoredWrites := by
  refine ⟨fun s p w hr => ?_, fun s p offset w ho => ?_⟩
  · rw [exec_stageWrite hr]
    refine ⟨fun hl => ?_, fun hl => ?_⟩
    · rw [State.modifyPort, PortState.stage, if_pos (show _ < Config.stagingWords from hl)]
    · rw [State.modifyPort, PortState.stage, if_neg (show ¬_ < Config.stagingWords from Nat.not_lt.2 hl)]
  · have h : s.writeWindow p offset w = s := by rcases ho with rfl | rfl | rfl | rfl | rfl <;> rfl
    change Host.Outcome.next (s.outOfReset (State.writeWindow p offset w)) = _
    rw [State.outOfReset, h, ite_self]

/-- Settles O10: the three rows are one write of the control word. -/
theorem controlWriteSetsEnables : Obligations.ControlWriteSetsEnables := by
  intro s p w hr
  have h : s.outOfReset (State.writeControl p w) = { s with ports := s.ports.set p.val { s.port p with
      responseEnable := w.getLsbD 0
      noticeEnable := w.getLsbD 1
      refusalFlag := if w.getLsbD 2 then false else (s.port p).refusalFlag
      staging := if w.getLsbD 3 then [] else (s.port p).staging
      overflow := if w.getLsbD 3 then false else (s.port p).overflow } } := by
    rw [State.outOfReset_released hr, State.writeControl, State.modifyPort, PortState.control]
    cases w.getLsbD 2 <;> cases w.getLsbD 3 <;> simp
  exact ⟨congrArg Host.Outcome.next h, congrArg Host.Outcome.next h, congrArg Host.Outcome.next h⟩

/-- Settles O6: the fields of the header word as numbers, the table of R138 row by row, and the checks in their order. -/
theorem submissionChecksInOrder : Obligations.SubmissionChecksInOrder := by
  refine ⟨fun w => ⟨headerTag_toNat w, headerLowZero_iff w, headerCode_eq_some w, headerCode_eq_none w⟩,
    fun c words => ?_, fun s p w hr => ?_⟩
  · cases c with
    | create =>
      change createCountOk words = true ↔ _
      cases words with
      | nil => simp [createCountOk]
      | cons w ws =>
        rw [createCountOk_cons]
        exact ⟨fun h => ⟨w, rfl, h⟩, fun ⟨_, hk, h⟩ => by cases hk; exact h⟩
    | _ => simp [wordCountOk]
  · have href : ∀ reason, s.refusalOf p w = some reason → exec (.submission p w) s = .next { s with
        ports := s.ports.set p.val { s.port p with staging := [], overflow := false, refusalFlag := true,
                                                   refusalReason := some reason, refusedTag := headerTag w } } :=
      fun reason h => by rw [exec_submission hr, State.submit_refused h]
    dsimp only
    refine ⟨fun hc => href _ (State.refusalOf_checking hc), fun hc => href _ (State.refusalOf_failed hc), fun hc =>
      ⟨fun hm hcode => href _ (State.refusalOf_mode hc ?_), fun hm => href _ (State.refusalOf_mode hc (by rw [hm]; rfl)),
        fun hm => href _ (State.refusalOf_mode hc (by rw [hm]; rfl)), fun ha hb => href _ ?_, fun ha hb ht => href _ ?_,
        fun ha hb ht hl => href _ ?_⟩⟩
    · rw [hm, modeRefusal, if_neg hcode]
    all_goals rw [State.refusalOf_admitted hc (modeRefusal_eq_none.2 ha)]
    · rw [if_pos (PortState.malformed_iff.2 hb)]
    · rw [if_neg (mt PortState.malformed_iff.1 hb), if_pos ht]
    · rw [if_neg (mt PortState.malformed_iff.1 hb), if_neg ht, if_pos hl]

/-- Settles O7: with every check passed the request, or the DONE of an ATTACH, joins its queue in the access. -/
theorem acceptedSubmissionsAndAttach : Obligations.AcceptedSubmissionsAndAttach := by
  refine ⟨fun s p w c hr hc hm hz hcode hne ho hw ht hl => ?_, fun s p tag hr hc hm hs ho ht hl => ?_⟩
  · have hmal : ¬(s.port p).malformed w = true := by
      rw [PortState.malformed_iff]; simp [hz, hcode, ho, hw]
    have h : s.refusalOf p w = none := by
      rw [State.refusalOf_admitted hc (modeRefusal_eq_none.2 (.inl hm)), if_neg hmal, if_neg ht, if_neg (Nat.not_le.2 hl)]
    rw [exec_submission hr, State.submit, h, State.modifyPort, PortState.submit]
    dsimp only
    rw [hcode]
    cases c with
    | attach => exact absurd rfl hne
    | _ => rfl
  · obtain ⟨hcode, htag, hz⟩ := header_attach tag
    have hmal : ¬(s.port p).malformed (headerWord .attach tag) = true := by
      rw [PortState.malformed_iff]; simp [hz, hcode, ho, hs, wordCountOk]
    have h : s.refusalOf p (headerWord .attach tag) = none := by
      rw [State.refusalOf_admitted hc (modeRefusal_eq_none.2 (hm.symm.imp_right fun h => ⟨h, hcode⟩)), if_neg hmal, htag,
        if_neg ht, if_neg (Nat.not_le.2 hl)]
    have ht : s.submit p (headerWord .attach tag) = { s with ports := s.ports.set p.val { s.port p with
        mode := .online
        outstanding := (s.port p).outstanding ++ [tag]
        responses := (s.port p).responses ++ [⟨tag, .done, []⟩] } } := by
      rw [State.submit, h, State.modifyPort, PortState.submit]
      dsimp only
      rw [hcode, htag]
      dsimp only [PortState.acceptAttach, PortState.clearStaging]
      have hon : (if (s.port p).mode = .offline then PortMode.online else (s.port p).mode) = .online := by
        rcases hm with hm | hm <;> simp [hm]
      rw [hon, ← hs, ← ho]
    exact ⟨(exec_attach hr p tag).trans (congrArg _ ht), (exec_submission hr p _).trans (congrArg _ ht)⟩

/-- Settles O8: the two cases of a read on a response. -/
theorem responseReadReturnsNextWord : Obligations.ResponseReadReturnsNextWord := by
  intro s p r rest hr hq
  have hword : (s.port p).responseWord =
      (responseHeader true r.tag r.result r.data.length :: r.data).getD (s.port p).readPos 0 := by
    rw [PortState.responseWord, hq]; rfl
  dsimp only
  rw [exec_responseRead hr, State.modifyPort, PortState.readResponse_cons hq, ← hword]
  exact ⟨fun hl => by rw [if_pos hl], fun hl => by rw [if_neg (Nat.not_lt.2 hl)]⟩

/-- Settles O11: each access is a write of its port's own state. -/
theorem portAccessTouchesItsPortAlone : Obligations.PortAccessTouchesItsPortAlone := by
  intro s t p c hc ht
  show s.touchesPort p t
  rcases hc with ⟨w, rfl | rfl | rfl | rfl | rfl | ⟨o, rfl⟩⟩ | rfl | ⟨g, rfl⟩ <;> cases ht <;>
    refine State.touchesPort_outOfReset ?_
  · exact State.touchesPort_stage p w s
  · exact State.touchesPort_submit p w s
  · exact State.touchesPort_control p w s
  · exact State.touchesPort_control p w s
  · exact State.touchesPort_control p w s
  · exact State.touchesPort_writeWindow p o w s
  · exact State.touchesPort_readResponse p s
  · exact State.touchesPort_submit p _ s

/-- Settles O12: the circle from each position, who is eligible, and the search along it. -/
theorem turnGoesToFirstEligible : Obligations.TurnGoesToFirstEligible := by
  intro s
  refine ⟨by decide, by decide, fun p => State.eligible_port_iff, State.eligible_walker_iff, fun h => ?_, fun hs hc =>
    ⟨fun n c hn he hf => State.turn_of_first hs hc hn he hf, fun hn => ?_⟩⟩
  · rw [State.turn, if_neg fun hg => ?_]
    obtain ⟨⟨hr, hready⟩, hclear⟩ := State.givesTurns_iff.1 hg
    rcases h with h | h | h
    · rw [hr] at h; cases h
    · exact h hready
    · exact h hclear
  · rw [State.turn, if_pos (State.givesTurns_iff.2 ⟨hs, hc⟩), List.find?_eq_none]
    exact fun c _ => by rw [hn c]; nofun

end Sys2Proof.Proofs
end

section
/-! The requests on handles: their checks (O13, O14), what they leave alone (O15), and CREATE, RETIRE, ASSIGN-LINE, FIND and SCAN
(O19, O20, O23, O25). -/

namespace Sys2Proof.Machine

/-! ### The checks of R3 and R4 -/

/-- A request on a handle goes through the checks that the tables give its code, and then acts on its record. -/
theorem exec_onHandle {p : Port} {c : ReqCode} {i : Instr} (h : ReqCode.taken p c = some i) (hn : c.namesHandle = true) :
    ∃ (cs : Request → CheckSpec) (act : Slot → Record → Port → Request → State → State),
      (∀ s : State, exec i s = .next (s.onTurn p c fun p r s => s.withRecord (cs r) act p r)) ∧
      ∀ r : Request, r.code = c →
        (∀ k, (cs r).kindOk k = r.fitsKind k) ∧ (cs r).ownerOnly = c.ownerOnly ∧ (cs r).onClosing = c.allowedClosing := by
  cases c
  case limits =>
    cases h
    exact ⟨fun r => ⟨limitsKindOk r, true, false⟩, actLimits, fun _ => rfl,
      fun r hr => ⟨fun k => by rw [Request.fitsKind, hr]; rfl, rfl, rfl⟩⟩
  case attach | detach | cancel | nextNotice | readLines | create | find | scan => cases hn
  all_goals
    cases h
    exact ⟨_, _, fun _ => rfl, fun r hr => ⟨fun k => by simp only [Request.fitsKind, hr] <;> rfl, rfl, rfl⟩⟩

/-- A request that a check stops is answered with the check's result and nothing else. -/
theorem exec_checked {s : State} {p : Port} {c : ReqCode} {i : Instr} {r : Request} {rest : List Request}
    {result : ResultCode} (hi : ReqCode.taken p c = some i) (hn : c.namesHandle = true) (h : s.atTurn p c r rest)
    (hc : ∀ cs : CheckSpec, (∀ k, cs.kindOk k = r.fitsKind k) → cs.ownerOnly = c.ownerOnly →
      cs.onClosing = c.allowedClosing → (s.turnTaken p rest).checkHandle p (r.word 0) cs = .inl result) :
    exec i s = .next (s.answered p rest ⟨r.tag, result, []⟩) := by
  obtain ⟨cs, act, he, hcs⟩ := exec_onHandle hi hn
  obtain ⟨h1, h2, h3⟩ := hcs r h.2.2
  rw [he, State.onTurn_atTurn h, State.withRecord, hc _ h1 h2 h3]
  exact congrArg _ (State.reply_turnTaken h _ _)

/-- At its turn a request that passes R3 and R4 acts on its record. -/
theorem State.onTurn_passes {s : State} {p : Port} {c : ReqCode} {r : Request} {rest : List Request} {rec : Record}
    (h : s.atTurn p c r rest) (hp : s.passes p r rec) {cs : CheckSpec} (hk : cs.kindOk rec.kind = true)
    (ho : cs.ownerOnly = c.ownerOnly) (hc : cs.onClosing = c.allowedClosing)
    (act : Slot → Record → Port → Request → State → State) :
    s.onTurn p c (State.withRecord cs act) = act r.target rec p r (s.turnTaken p rest) := by
  rw [State.onTurn_atTurn h, State.withRecord_atTurn h hp cs (hk.trans hp.2.1.symm) ho hc]

theorem State.record_of_passes {s : State} {p : Port} {r : Request} {rest : List Request} {rec : Record}
    (hp : s.passes p r rec) : ((s.turnTaken p rest).slot r.target).record = some rec := hp.1.2

/-- An event on the body of a LIVE record ends with its change report. -/
theorem State.finishEvent_live {i : Slot} {rec : Record} (hl : rec.state = .live) (body : Body)
    (rs : List (Port × Response)) (s : State) :
    s.finishEvent i rec { rec with body := body } rs = (s.placeAll rs).updateRecord i rec { rec with body := body } := by
  have hd : drains rec { rec with body := body } = false := by simp [drains, hl]
  unfold State.finishEvent
  dsimp only
  rw [if_neg (by simp [hd])]

/-! ### What a request leaves alone (O15) -/

/-- What a request may change: queues, the slot it names, the free entries, the changed sets, the line counts, and the MATTN
reasons where a pool or queue is exhausted. -/
structure State.sparesRest (c : ReqCode) (r : Request) (u t : State) : Prop where
  device : u.sameDevice t
  mattn : c ≠ .acquire → c ≠ .acquireWait → t.mattnReasons = u.mattnReasons
  slot : c.namesHandle = true → ∀ j : Slot, j ≠ r.target → t.slot j = u.slot j

theorem RequestEffect.sparesRest {c : ReqCode} {p : Port} {r : Request} {u t : State} (he : RequestEffect c p r u t) :
    State.sparesRest c r u t := by
  cases he with
  | reply => exact ⟨by simp [State.sameDevice], fun _ _ => by simp, fun _ j _ => by simp⟩
  | exhausted n result hc =>
    exact ⟨by simp [State.sameDevice], fun h1 h2 => (hc.elim h1 h2).elim, fun _ j _ => by simp⟩
  | body result hi =>
    exact ⟨by simp [State.sameDevice], fun _ _ => by simp,
      fun hn j hj => State.slot_finishEvent_ne (fun h => hj (h.symm.trans (hi hn))) _ _ _ _⟩
  | queue | hold =>
    exact ⟨by simp [State.sameDevice], fun _ _ => by simp, fun _ j hj => State.slot_finishEvent_ne hj.symm _ _ _ _⟩
  | retire =>
    exact ⟨by simp [State.sameDevice], fun _ _ => by simp, fun _ j hj => by
      rw [State.reply_slot, State.slot_emptySlot, if_neg hj.symm]⟩
  | own | watch =>
    exact ⟨by simp [State.sameDevice], fun _ _ => by simp, fun _ j hj => by
      rw [State.reply_slot, State.slot_writeRecord, if_neg hj.symm]⟩
  | assign =>
    exact ⟨by simp [State.sameDevice], fun _ _ => by simp, fun _ j hj => by
      rw [State.reply_slot, State.slot_writeRecord, if_neg hj.symm]; simp⟩
  | create hc =>
    exact ⟨by simp [State.sameDevice], fun _ _ => by simp, fun hn => by subst hc; cases hn⟩
  | notice hc => exact ⟨by simp [State.sameDevice], fun _ _ => by simp, fun hn => by subst hc; cases hn⟩

/-! ### CREATE (R13 to R15) -/

theorem policyOfCode_eq {n : Nat} : policyOfCode n = if n ≤ 1 then some (if n = 0 then .reject else .clip) else none := by
  match n with
  | 0 | 1 => rfl
  | n + 2 => simp [policyOfCode]

/-- The bodies that R14's first two checks let pass. -/
theorem createBody_eq_some {r : Request} {body : Body} : createBody r = some body ↔ r.createsBody body := by
  unfold createBody
  rw [kindCode_eq]
  unfold Request.createsBody
  have hk : (r.word 0).toNat % 16 < 16 := Nat.mod_lt _ (by decide)
  generalize (r.word 0).toNat % 16 = k at hk
  match k with
  | 1 =>
    simp only [kindOfCode, createPool]
    split <;> simp_all [eq_comm]
  | 2 =>
    simp only [kindOfCode, createCounter]
    rw [policyCode_eq, policyOfCode_eq]
    by_cases hp : (r.word 0).toNat / 16 % 16 ≤ 1
    · rw [if_pos hp]
      dsimp only
      split <;> simp_all [eq_comm]
    · rw [if_neg hp]
      simp [hp]
  | 3 => simp [kindOfCode, createFlags, eq_comm]
  | 4 =>
    simp only [kindOfCode, createSequence]
    split <;> simp_all [eq_comm]
  | 0 => simp [kindOfCode]
  | n + 5 => simp [kindOfCode]

theorem createBody_eq_none {r : Request} : createBody r = none ↔ ∀ body, ¬r.createsBody body := by
  simp only [← createBody_eq_some, Option.eq_none_iff_forall_ne_some, ne_eq]

theorem State.slotOfKey_eq_none {s : State} {key : Word} :
    s.slotOfKey key = none ↔ ∀ (j : Slot) (rec : Record), (s.slot j).record = some rec → rec.key ≠ key := by
  simp only [State.slotOfKey, List.find?_eq_none, allSlots, List.mem_finRange, true_implies, Option.any_eq_true, beq_iff_eq,
    not_exists, not_and]

/-- The first slot in ascending order that meets a condition. -/
theorem find_slot_eq_some {f : Slot → Bool} {i : Slot} (hi : f i = true) (hlow : ∀ j < i, f j = false) :
    allSlots.find? f = some i := by
  rw [allSlots, List.find?_eq_some_iff_getElem]
  refine ⟨hi, i.val, by simp, by simp, fun j hj => ?_⟩
  have := hlow ⟨j, hj.trans i.isLt⟩ hj
  simp [this]

theorem find_slot_eq_none {f : Slot → Bool} (h : ∀ j, f j = false) : allSlots.find? f = none := by
  rw [List.find?_eq_none]
  exact fun j _ => by rw [h j]; nofun

theorem State.lowestEmpty_eq_some {s : State} {i : Slot} (hi : (s.slot i).record = none)
    (hlow : ∀ j : Slot, j < i → (s.slot j).record ≠ none) : s.lowestEmpty = some i :=
  find_slot_eq_some (by simp [hi]) fun j hj => by simpa [Option.isSome_iff_ne_none] using hlow j hj

theorem State.lowestEmpty_eq_none {s : State} (h : ∀ j : Slot, (s.slot j).record ≠ none) : s.lowestEmpty = none :=
  find_slot_eq_none fun j => by simpa [Option.isSome_iff_ne_none] using h j

/-- A record without entries written in an EMPTY slot is all that changes. -/
theorem State.writeRecord_empty {s : State} {i : Slot} {rec : Record} (hs : (s.slot i).record = none)
    (hu : rec.body.entriesUsed = 0) (hw : rec.body.waiters = []) : s.writeRecord i rec = s.holding i rec := by
  simp [State.writeRecord, State.writeSlot, State.holding, SlotState.entriesUsed, SlotState.waiters, hs, hu, hw]

theorem exec_create {s : State} {p : Port} {r : Request} {rest : List Request} (h : s.atTurn p .create r rest) :
    exec (.create p) s = .next (takeCreate p r (s.turnTaken p rest)) :=
  congrArg Host.Outcome.next (State.onTurn_atTurn h _)

/-! ### RETIRE (R16, R17) -/

/-- The commitments of a record by its kind (R6). -/
theorem Record.committed_iff {rec : Record} : rec.committed = true ↔
    (∃ b, rec.body = .pool b ∧ b.holdings ≠ []) ∨
      ∃ b, rec.body = .flags b ∧ ∃ n : FlagNo, b.claimants[n.val] ≠ none := by
  rw [Record.committed]
  cases rec.body with
  | pool b => simp [Body.committed]
  | flags b =>
    simp only [Body.committed, List.any_eq_true, reduceCtorEq, false_and, exists_false, Body.flags.injEq, false_or,
      exists_eq_left']
    constructor
    · rintro ⟨c, hc, hs⟩
      obtain ⟨n, hn, rfl⟩ := List.getElem_of_mem hc
      exact ⟨⟨n, by simpa using hn⟩, by simpa [Option.isSome_iff_ne_none] using hs⟩
    · rintro ⟨n, hn⟩
      exact ⟨b.claimants[n.val], by simp, Option.isSome_iff_ne_none.2 hn⟩
  | counter | sequence => simp [Body.committed]

/-- RETIRE of a record with a commitment drains nothing yet. -/
theorem State.finishEvent_hold {i : Slot} {rec r1 : Record} (hb : r1.body = rec.body.withoutWaiters)
    (hc : rec.committed = true) (rs : List (Port × Response)) (s : State) :
    s.finishEvent i rec r1 rs = (s.placeAll rs).updateRecord i rec r1 := by
  have h1 : r1.committed = true := by rw [Record.committed, hb]; exact (committed_withoutWaiters _).trans hc
  have hd : drains rec r1 = false := by simp [drains, h1]
  unfold State.finishEvent
  dsimp only
  rw [if_neg (by simp [hd])]

/-! ### ASSIGN-LINE (R24, R128) -/

theorem assignmentOfWord_line (x : LineNo) (inverted : Bool) :
    assignmentOfWord (0x0100#16 ||| BitVec.ofNat 16 x.val ||| (if inverted then 0x0010#16 else 0)) =
      some (some ⟨x, if inverted then .inverted else .normal⟩) := by
  revert x inverted; decide

theorem assignmentOfWord_none {w : Word} (h : (w ≠ 0 ∧ w.getLsbD 8 = false) ∨ (w.getLsbD 8 = true ∧ w &&& 0xFEE8#16 ≠ 0)) :
    assignmentOfWord w = none := by
  unfold assignmentOfWord
  rcases h with ⟨hw, h8⟩ | ⟨h8, hm⟩
  · rw [if_neg hw, if_neg (by rw [h8]; simp)]
  · have hw : w ≠ 0 := by rintro rfl; simp at h8
    rw [if_neg hw, if_neg (by simpa using fun _ => hm)]

/-- Withdrawing a contribution commutes with the start of a turn, which leaves the counts. -/
theorem State.withdrawLine_turnTaken (p : Port) (rest : List Request) (line : Option LineAssignment) (alert : Bool)
    (s : State) : (s.turnTaken p rest).withdrawLine line alert = (s.withdrawLine line alert).turnTaken p rest := by
  unfold State.withdrawLine
  split
  · rfl
  split <;> rfl

theorem State.enterLine_turnTaken (p : Port) (rest : List Request) (line : Option LineAssignment) (alert : Bool)
    (s : State) : (s.turnTaken p rest).enterLine line alert = (s.enterLine line alert).turnTaken p rest := by
  unfold State.enterLine
  split
  · rfl
  split <;> rfl

/-- A record's contribution moved to another line changes the line counts alone. -/
theorem State.movedLine_eq (l1 l2 : Option LineAssignment) (alert : Bool) (s : State) :
    (s.withdrawLine l1 alert).enterLine l2 alert =
      { s with lineCounts := ((s.withdrawLine l1 alert).enterLine l2 alert).lineCounts } := by
  unfold State.enterLine State.withdrawLine
  cases l1 <;> cases l2 <;> dsimp only <;> split_ifs <;> rfl

/-- ASSIGN-LINE at its turn sets the line field and moves the counts (R24). -/
theorem actAssignLine_eq {s : State} {p : Port} {r : Request} {rest : List Request} {rec : Record}
    (h : s.atTurn p .assignLine r rest) (hs : (s.slot r.target).record = some rec) {line : Option LineAssignment}
    (hl : assignmentOfWord (r.word 1) = some line) :
    actAssignLine r.target rec p r (s.turnTaken p rest) =
      { (s.answered p rest ⟨r.tag, .done, []⟩).holding r.target { rec with line := line } with
        lineCounts := ((s.withdrawLine rec.line rec.inAlert).enterLine line rec.inAlert).lineCounts } := by
  rw [actAssignLine, hl]
  dsimp only
  rw [State.withdrawLine_turnTaken, State.enterLine_turnTaken, State.movedLine_eq]
  exact State.reply_writeRecord_sameBody
    (s := { s with lineCounts := ((s.withdrawLine rec.line rec.inAlert).enterLine line rec.inAlert).lineCounts })
    (rec' := { rec with line := line }) h hs rfl

/-! ### FIND and SCAN (R30 to R33) -/

theorem exec_find {s : State} {p : Port} {r : Request} {rest : List Request} (h : s.atTurn p .find r rest) :
    exec (.find p) s = .next (takeFind p r (s.turnTaken p rest)) :=
  congrArg Host.Outcome.next (State.onTurn_atTurn h _)

theorem exec_scan {s : State} {p : Port} {r : Request} {rest : List Request} (h : s.atTurn p .scan r rest) :
    exec (.scan p) s = .next (takeScan p r (s.turnTaken p rest)) :=
  congrArg Host.Outcome.next (State.onTurn_atTurn h _)

theorem positionStart_eq (w : Word) : positionStart w = w.toNat % 512 := by
  simp [positionStart, BitVec.extractLsb'_toNat]

theorem positionFilter_eq (w : Word) : positionFilter w = w.toNat / 512 % 16 := by
  simp [positionFilter, BitVec.extractLsb'_toNat, Nat.shiftRight_eq_div_pow]

theorem positionOk_iff (w : Word) :
    positionOk w = true ↔ w.toNat % 512 ≤ 256 ∧ w.toNat / 512 % 16 ≤ 4 ∧ w.toNat < 8192 := by
  have hw := w.isLt
  have htop : w.extractLsb' 13 3 = 0#3 ↔ w.toNat < 8192 := by
    rw [← BitVec.toNat_inj, BitVec.extractLsb'_toNat, Nat.shiftRight_eq_div_pow, BitVec.toNat_ofNat]
    omega
  simp [positionOk, positionStart_eq, positionFilter_eq, htop, and_assoc]

/-- The codes of the kinds are those of the bodies (01 section 1.5). -/
theorem Record.kind_code (rec : Record) : rec.kind.code =
    match rec.body with | .pool _ => 1 | .counter _ => 2 | .flags _ => 3 | .sequence _ => 4 := by
  rw [Record.kind]
  cases rec.body <;> rfl

/-- A record answers a SCAN by its key under the mask and its kind. -/
theorem Record.answersScan_iff {value mask : Word} {filter : Nat} {rec : Record} :
    rec.answersScan value mask filter = true ↔
      rec.key &&& mask = value &&& mask ∧ (filter = 0 ∨ filter = rec.kind.code) := by
  simp [Record.answersScan]

end Sys2Proof.Machine

namespace Sys2Proof.Proofs

open Sys2Proof.Machine

/-- Settles O13: the checks of a code's command are those of the tables, and the first of them finds the handle stale. -/
theorem staleHandleAnsweredStale : Obligations.StaleHandleAnsweredStale := fun _ _ _ _ _ _ hi hn h hs =>
  exec_checked hi hn h fun _ _ _ _ => State.checkHandle_stale hs

/-- Settles O14: the first check that stops the request gives its result. -/
theorem kindOwnerAndStateChecks : Obligations.KindOwnerAndStateChecks := by
  refine ⟨fun rec => ?_, fun s p c i r rest rec hi hn h hnames => ⟨fun hk => ?_, fun hk ho hne => ?_, fun hk ho hst hc => ?_⟩⟩
  · rw [Record.kind]
    cases rec.body <;> rfl
  · exact exec_checked hi hn h fun cs h1 _ _ => by
      rw [State.checkHandle_names (State.names_turnTaken.2 hnames), if_pos ((h1 _).trans hk)]
  · exact exec_checked hi hn h fun cs h1 h2 _ => by
      rw [State.checkHandle_names (State.names_turnTaken.2 hnames), if_neg (by simp [h1, hk]), if_pos ⟨h2.trans ho, hne⟩]
  · exact exec_checked hi hn h fun cs h1 h2 h3 => by
      rw [State.checkHandle_names (State.names_turnTaken.2 hnames), if_neg (by simp [h1, hk]),
        if_neg fun hcs => hcs.2 (ho (h2.symm.trans hcs.1)), if_pos ⟨h3.trans hc, hst⟩]

/-- Settles O15: the frame of what a request's turn does, on top of what taking the turn itself changes. -/
theorem requestsLeaveTheRestAlone : Obligations.RequestsLeaveTheRestAlone := by
  intro s t p c i r rest hi hd h he
  obtain ⟨u, hu, heff⟩ := exec_request hi hd h
  obtain rfl : u = t := Host.Outcome.next.inj (hu.symm.trans he)
  obtain ⟨hdev, hm, hslot⟩ := heff.sparesRest
  have hport : ∀ q : Port, ∃ more, u.port q =
      { s.port q with
        intake := if q = p then rest else (s.port q).intake
        responses := (s.port q).responses ++ more } := fun q => by
    obtain ⟨more, hq⟩ := heff.port_tail q
    refine ⟨more, hq.trans ?_⟩
    rw [State.port_turnTaken]
    by_cases hqp : q = p
    · subst hqp; simp
    · simp [hqp, Ne.symm hqp]
  refine ⟨hdev, fun q => ?_, ?_, hm, hslot⟩
  · obtain ⟨more, hq⟩ := hport q
    exact ⟨⟨_, more, hq⟩, fun hqp => by rw [hq, if_neg hqp]⟩
  · obtain ⟨more, hp⟩ := hport p
    rw [hp, if_pos rfl]

/-- Settles O19: the checks of R14 in their order, then the lowest EMPTY slot takes the record. -/
theorem createTakesLowestEmptySlotOrIsRefused : Obligations.CreateTakesLowestEmptySlotOrIsRefused := by
  refine ⟨fun s p r rest i body h hb hk hs hlow => ?_, fun s p r rest h => ⟨fun hb => ?_, fun ⟨body, hb⟩ => ⟨?_, fun hk hf => ?_⟩⟩⟩
  · have h1 : (s.turnTaken p rest).slotOfKey (r.word 1) = none := State.slotOfKey_eq_none.2 hk
    have h2 : (s.turnTaken p rest).lowestEmpty = some i := State.lowestEmpty_eq_some hs hlow
    obtain ⟨hu, hw⟩ : body.entriesUsed = 0 ∧ body.waiters = [] := by
      rcases hb with ⟨-, -, rfl⟩ | ⟨-, -, -, -, rfl⟩ | ⟨-, rfl⟩ | ⟨-, -, -, -, rfl⟩ <;> exact ⟨rfl, rfl⟩
    rw [exec_create h, takeCreate, createBody_eq_some.2 hb, h1, h2]
    refine congrArg Host.Outcome.next ?_
    change ((s.turnTaken p rest).writeRecord i (newRecord (r.word 1) p body)).reply p r .done _ = _
    rw [State.writeRecord_empty (by exact hs) hu hw, State.reply_holding, State.reply_turnTaken h]
    rfl
  · rw [exec_create h, takeCreate, createBody_eq_none.2 hb]
    exact congrArg Host.Outcome.next (State.reply_turnTaken h _ _)
  · rintro ⟨j, rec, hj, hk⟩
    rw [exec_create h, takeCreate, createBody_eq_some.2 hb]
    cases hslot : (s.turnTaken p rest).slotOfKey (r.word 1) with
    | none => exact absurd hk (State.slotOfKey_eq_none.1 hslot j rec hj)
    | some k => exact congrArg Host.Outcome.next (State.reply_turnTaken h _ _)
  · have h1 : (s.turnTaken p rest).slotOfKey (r.word 1) = none := State.slotOfKey_eq_none.2 hk
    have h2 : (s.turnTaken p rest).lowestEmpty = none := State.lowestEmpty_eq_none hf
    rw [exec_create h, takeCreate, createBody_eq_some.2 hb, h1, h2]
    exact congrArg Host.Outcome.next (State.reply_turnTaken h _ _)

/-- Settles O20: a record with no commitment is emptied at once; one that still has any drains nothing yet. -/
theorem retireEmptiesOrHolds : Obligations.RetireEmptiesOrHolds := by
  refine ⟨fun rec => ?_, fun body => ?_, fun s p r rest rec h hp => ?_⟩
  · rw [Record.committed_iff]
    cases rec.body <;> simp
  · cases body <;> rfl
  · have he : exec (.retire p) s = .next (actRetire r.target rec p r (s.turnTaken p rest)) :=
      congrArg Host.Outcome.next (State.onTurn_passes h hp rfl rfl rfl _)
    refine ⟨fun hc => ?_, fun hc => ?_⟩
    · rw [he, actRetire, if_neg (by simp [hc])]
      rfl
    · rw [he, actRetire, if_pos hc, State.finishEvent_hold rfl hc]
      rfl

/-- Settles O23: the contribution leaves the old line and enters the new one, whose counts alone change with it. -/
theorem assignLineMovesTheContribution : Obligations.AssignLineMovesTheContribution := by
  intro s p r rest rec h hp
  have he : exec (.assignLine p) s = .next (actAssignLine r.target rec p r (s.turnTaken p rest)) :=
    congrArg Host.Outcome.next (State.onTurn_passes h hp rfl rfl rfl _)
  refine ⟨fun line hl => ?_, fun hw => ?_⟩
  · have hline : assignmentOfWord (r.word 1) = some line := by
      rcases hl with ⟨hw, rfl⟩ | ⟨x, inverted, hw, rfl⟩
      · rw [hw]; decide
      · rw [hw, assignmentOfWord_line]
    refine ⟨_, by rw [he, actAssignLine_eq h hp.1.2 hline], fun x => ?_⟩
    rw [contributesTo_some, contributesTo_some]
    exact (lineCounts_enterLine ..).trans (congrArg (· + _) (lineCounts_withdrawLine ..))
  · rw [he, actAssignLine, assignmentOfWord_none hw]
    exact congrArg Host.Outcome.next (State.reply_turnTaken h _ _)

/-- Settles O25: both search the slots in ascending order. -/
theorem findAndScanReturnHandles : Obligations.FindAndScanReturnHandles := by
  refine ⟨fun s p r rest h => ⟨fun i rec hi hk hlow => ?_, fun hk => ?_⟩, ?_⟩
  · have hfind : (s.turnTaken p rest).slotOfKey (r.word 0) = some i :=
      find_slot_eq_some (by simp [hi, hk]) fun j hj => Bool.eq_false_iff.2 fun hj' => by
        obtain ⟨a, ha, hk'⟩ := (Option.any_eq_true ..).1 hj'
        exact hlow j a hj ha (by simpa using hk')
    rw [exec_find h, takeFind, hfind]
    exact congrArg Host.Outcome.next (State.reply_turnTaken h _ _)
  · have hfind : (s.turnTaken p rest).slotOfKey (r.word 0) = none := State.slotOfKey_eq_none.2 hk
    rw [exec_find h, takeFind, hfind]
    exact congrArg Host.Outcome.next (State.reply_turnTaken h _ _)
  · intro s p r rest h start filter inRange fits
    have hok : positionOk (r.word 2) = true ↔ inRange := positionOk_iff _
    have hfits : ∀ i : Slot, (positionStart (r.word 2) ≤ i.val && (s.slot i).record.any
        (Record.answersScan (r.word 0) (r.word 1) (positionFilter (r.word 2)))) = true ↔ ∃ rec, fits i rec := fun i => by
      simp only [Bool.and_eq_true, decide_eq_true_eq, Option.any_eq_true, Record.answersScan_iff, Record.kind_code,
        positionStart_eq, positionFilter_eq, ← exists_and_left]
      rfl
    rw [exec_scan h, takeScan]
    refine ⟨fun hr => ?_, fun hr => ⟨fun i rec hi hlow => ?_, fun hnone => ?_⟩⟩
    · rw [if_pos (by simpa using Bool.eq_false_iff.2 (mt hok.1 hr))]
      exact congrArg Host.Outcome.next (State.reply_turnTaken h _ _)
    · have hscan : (s.turnTaken p rest).scanFrom (r.word 0) (r.word 1) (r.word 2) = some i :=
        find_slot_eq_some ((hfits i).2 ⟨rec, hi⟩) fun j hj => Bool.eq_false_iff.2 fun hj' =>
          let ⟨a, ha⟩ := (hfits j).1 hj'
          hlow j a hj ha
      rw [if_neg (by simp [hok.2 hr]), hscan]
      dsimp only
      rw [State.reply_turnTaken h, State.turnTaken_slot, hi.2.1]
      rfl
    · have hscan : (s.turnTaken p rest).scanFrom (r.word 0) (r.word 1) (r.word 2) = none :=
        find_slot_eq_none fun j => Bool.eq_false_iff.2 fun hj' =>
          let ⟨a, ha⟩ := (hfits j).1 hj'
          hnone j a ha
      rw [if_neg (by simp [hok.2 hr]), hscan]
      exact congrArg Host.Outcome.next (State.reply_turnTaken h _ _)

end Sys2Proof.Proofs
end

section
/-! READ and LIMITS (O22, O24), the requests of COUNTER, FLAGS and SEQUENCE records (O36 to O38), and the notices and lines
that are read (O39). -/

namespace Sys2Proof.Machine

/-! ### A request on a record of its kind -/

theorem onPool_of_body {rec : Record} {b : Pool} (hb : rec.body = .pool b)
    (act : Slot → Record → Pool → Port → Request → State → State) (i : Slot) (p : Port) (r : Request) (s : State) :
    onPool act i rec p r s = act i rec b p r s := by rw [onPool, hb]

theorem onCounter_of_body {rec : Record} {b : Counter} (hb : rec.body = .counter b)
    (act : Slot → Record → Counter → Port → Request → State → State) (i : Slot) (p : Port) (r : Request) (s : State) :
    onCounter act i rec p r s = act i rec b p r s := by rw [onCounter, hb]

theorem onFlags_of_body {rec : Record} {b : FlagSet} (hb : rec.body = .flags b)
    (act : Slot → Record → FlagSet → Port → Request → State → State) (i : Slot) (p : Port) (r : Request) (s : State) :
    onFlags act i rec p r s = act i rec b p r s := by rw [onFlags, hb]

theorem onSequence_of_body {rec : Record} {b : Sequence} (hb : rec.body = .sequence b)
    (act : Slot → Record → Sequence → Port → Request → State → State) (i : Slot) (p : Port) (r : Request) (s : State) :
    onSequence act i rec p r s = act i rec b p r s := by rw [onSequence, hb]

theorem Record.kind_of_body {rec : Record} {b : Body} (hb : rec.body = b) : rec.kind = b.kind := by rw [Record.kind, hb]

/-- A request that R18 keeps off CLOSING records finds a LIVE one at its turn. -/
theorem State.live_atTurn {s : State} {p : Port} {c : ReqCode} {r : Request} {rest : List Request} {rec : Record}
    (h : s.atTurn p c r rest) (hp : s.passes p r rec) (hc : c.allowedClosing = false) : rec.state = .live :=
  State.live_of_passes hp (h.2.2 ▸ hc)

/-! ### The words of READ (10.3, 10.4) -/

theorem outcomeClass_lt (v : Int) : outcomeClass v < 4 := by
  unfold outcomeClass
  split
  · decide
  split <;> decide

theorem Counter.toNat_statusWord (c : Counter) (clipped : Bool) : (c.statusWord clipped).toNat =
    (if c.policy = .clip then 1 else 0) + (if c.limitFlag then 2 else 0) +
    (if c.value = 0 then 0 else if c.value < 0 then 4 else 8) + (if clipped then 16 else 0) := by
  have hpolicy : (c.policy == .clip).toNat = if c.policy = .clip then 1 else 0 := by cases c.policy <;> rfl
  have hclass : outcomeClass c.value * 4 = if c.value = 0 then 0 else if c.value < 0 then 4 else 8 := by
    unfold outcomeClass
    split_ifs <;> rfl
  have hlimit : c.limitFlag.toNat * 2 = if c.limitFlag then 2 else 0 := by cases c.limitFlag <;> rfl
  have hclip : clipped.toNat * 16 = if clipped then 16 else 0 := by cases clipped <;> rfl
  simp only [Counter.statusWord, toNat_fields, BitVec.toNat_ofBool, BitVec.toNat_ofNat,
    Nat.mod_eq_of_lt (show outcomeClass c.value < 2 ^ 2 from outcomeClass_lt _)]
  rw [← hpolicy, ← hclass, ← hlimit, ← hclip]
  omega

theorem Record.toNat_descriptor (rec : Record) (p : Port) : (rec.descriptor p).toNat =
    (match rec.body with | .pool _ => 0 | .counter _ => 1 | .flags _ => 2 | .sequence _ => 3) * 16384 +
    (if rec.state = .closing then 8192 else 0) +
    (match rec.owner with | none => 0 | some q => 4096 + q.val * 1024) +
    (match rec.line with | none => 0 | some a => 512 + a.line.val * 64 + (if a.sense = .inverted then 32 else 0)) +
    (if rec.inAlert then 16 else 0) +
    (match rec.held with | .absent => 0 | .pending _ _ => 4 | .discarded => 8) +
    (match rec.watch[p.val] with | .off => 0 | .change => 1 | .alert => 2 | .ended => 3) := by
  have hkind : (rec.kind.code - 1) % 4 =
      match rec.body with | .pool _ => 0 | .counter _ => 1 | .flags _ => 2 | .sequence _ => 3 := by
    rw [Record.kind]; cases rec.body <;> rfl
  have hstate : (rec.state == .closing).toNat * 8192 = if rec.state = .closing then 8192 else 0 := by
    cases rec.state <;> rfl
  have howner : rec.owner.isSome.toNat * 4096 + rec.owner.elim 0 (·.val) % 4 * 1024 =
      match rec.owner with | none => 0 | some q => 4096 + q.val * 1024 := by
    cases rec.owner with
    | none => rfl
    | some q => simp only [Option.isSome_some, Bool.toNat_true, Option.elim_some, Nat.mod_eq_of_lt q.isLt]
  have hline : rec.line.isSome.toNat * 512 + rec.line.elim 0 (·.line.val) % 8 * 64 +
      (rec.line.elim false (·.sense == .inverted)).toNat * 32 =
      match rec.line with | none => 0 | some a => 512 + a.line.val * 64 + (if a.sense = .inverted then 32 else 0) := by
    cases rec.line with
    | none => rfl
    | some a =>
      simp only [Option.isSome_some, Bool.toNat_true, Option.elim_some, Nat.mod_eq_of_lt a.line.isLt]
      cases a.sense <;> rfl
  have halert : rec.inAlert.toNat * 16 = if rec.inAlert then 16 else 0 := by cases rec.inAlert <;> rfl
  have hheld : rec.held.code % 4 * 4 = match rec.held with | .absent => 0 | .pending _ _ => 4 | .discarded => 8 := by
    cases rec.held <;> rfl
  have hwatch : rec.watch[p.val].code % 4 =
      match rec.watch[p.val] with | .off => 0 | .change => 1 | .alert => 2 | .ended => 3 := by
    cases rec.watch[p.val] <;> rfl
  simp only [Record.descriptor, toNat_fields, BitVec.toNat_ofBool, BitVec.toNat_ofNat]
  rw [← hkind, ← hstate, ← howner, ← hline, ← halert, ← hheld, ← hwatch]
  omega

/-- A FLAGS record is in alert when its alert mask is not empty and all its flags are set (R106). -/
theorem FlagSet.inAlert_iff (b : FlagSet) : b.inAlert = true ↔
    b.alertMask ≠ 0 ∧ ∀ n : FlagNo, b.alertMask.getLsbD n.val = true → b.flags.getLsbD n.val = true := by
  simp only [FlagSet.inAlert, Bool.and_eq_true, bne_iff_ne, beq_iff_eq]
  refine and_congr_right fun _ => ⟨fun h n hn => ?_, fun h => BitVec.eq_of_getLsbD_eq fun n hn => ?_⟩
  · rw [← h, BitVec.getLsbD_and, Bool.and_eq_true] at hn
    exact hn.1
  · rw [BitVec.getLsbD_and]
    cases hm : b.alertMask.getLsbD n with
    | false => rw [Bool.and_false]
    | true => rw [h ⟨n, hn⟩ hm, Bool.and_true]

/-! ### LIMITS (R23, R59, R95, R96, R105, R114) -/

theorem exec_limits_passes {s : State} {p : Port} {r : Request} {rest : List Request} {rec : Record}
    (h : s.atTurn p .limits r rest) (hp : s.passes p r rec) :
    exec (.limits p) s = .next (actLimits r.target rec p r (s.turnTaken p rest)) := by
  have hk : limitsKindOk r rec.kind = r.fitsKind rec.kind := by
    simp only [Request.fitsKind, h.2.2]
    rfl
  change Host.Outcome.next (s.onTurn p .limits _) = _
  rw [State.onTurn_atTurn h, takeLimits, State.withRecord_atTurn h hp _ hk rfl rfl]

theorem clampTo_inside {floor ceiling v : Int} (h1 : floor ≤ v) (h2 : v ≤ ceiling) : clampTo floor ceiling v = v := by
  rw [clampTo, if_neg (by omega), if_neg (by omega)]

theorem clampTo_below {floor ceiling v : Int} (h : v < floor) : clampTo floor ceiling v = floor := if_pos h

theorem clampTo_above {floor ceiling v : Int} (hf : floor ≤ ceiling) (h : ceiling < v) : clampTo floor ceiling v = ceiling := by
  rw [clampTo, if_neg (by omega), if_pos h]

theorem Counter.setLimits_eq {c : Counter} {floor ceiling value : Int} {out : Bool}
    (hv : clampTo floor ceiling c.value = value) (ho : (decide (c.value < floor) || decide (ceiling < c.value)) = out)
    (low high : Int) : c.setLimits floor ceiling low high =
      { c with
        floor := floor, ceiling := ceiling, lowMark := low, highMark := high, value := value
        limitFlag := c.limitFlag || out } := by
  rw [Counter.setLimits, hv, ho]

/-! ### Targets of a COUNTER (R89) -/

theorem Counter.outside_iff {c : Counter} {t : Int} : c.outside t = true ↔ t < c.floor ∨ c.ceiling < t := by
  simp [Counter.outside]

/-- A COUNTER request on a LIVE record ends with its answer and the change report. -/
theorem State.finishCounter_live {i : Slot} {rec : Record} (hl : rec.state = .live) (c1 : Counter) (p : Port) (r : Request)
    (result : ResultCode) (clipped : Bool) (s : State) : s.finishCounter i rec c1 p r result clipped =
      (s.placeAll [(p, ⟨r.tag, result, [intWord c1.value, c1.statusWord clipped]⟩)]).updateRecord i rec
        { rec with body := .counter c1 } :=
  State.finishEvent_live hl _ _ _

section
variable {s : State} {i : Slot} {rec : Record} {c : Counter} {t : Int} {p : Port} {r : Request}

theorem State.applyTarget_inside (h : ¬(t < c.floor ∨ c.ceiling < t)) :
    s.applyTarget i rec c t p r = s.finishCounter i rec { c with value := t } p r .done false := by
  have ho : c.outside t = false := Bool.eq_false_iff.2 (mt Counter.outside_iff.1 h)
  simp [State.applyTarget, Counter.applyTarget, Counter.targetResult, Counter.targetClipped, ho]

theorem State.applyTarget_reject (h : t < c.floor ∨ c.ceiling < t) (hp : c.policy = .reject) :
    s.applyTarget i rec c t p r = s.finishCounter i rec { c with limitFlag := true } p r .limit false := by
  have ho : c.outside t = true := Counter.outside_iff.2 h
  simp [State.applyTarget, Counter.applyTarget, Counter.targetResult, Counter.targetClipped, ho, hp,
    show (Policy.reject == Policy.clip) = false from rfl]

theorem State.applyTarget_clip (h : t < c.floor ∨ c.ceiling < t) (hp : c.policy = .clip) :
    s.applyTarget i rec c t p r = s.finishCounter i rec
      { c with limitFlag := true, value := clampTo c.floor c.ceiling t } p r .done true := by
  have ho : c.outside t = true := Counter.outside_iff.2 h
  simp [State.applyTarget, Counter.applyTarget, Counter.targetResult, Counter.targetClipped, ho, hp]

end

/-! ### FLAGS records (R102 to R104) -/

/-- A mask operation acts on a flag by what its operation does to the bit that the unclaimed part of the mask has there. -/
theorem getLsbD_unclaimedMask (b : FlagSet) (mask : Word) (n : FlagNo) :
    (mask &&& ~~~b.claimed).getLsbD n.val = (mask.getLsbD n.val && b.claimants[n.val].isNone) := by
  rw [getLsbD_andNot, getLsbD_claimed]
  cases b.claimants[n.val] <;> rfl

theorem FlagSet.lowestClear_eq_none {b : FlagSet} {mask : Word}
    (h : ∀ n : FlagNo, mask.getLsbD n.val = true → b.flags.getLsbD n.val = true) : b.lowestClear mask = none := by
  refine List.find?_eq_none.2 fun n _ hn => ?_
  rw [getLsbD_andNot, Bool.and_eq_true] at hn
  rw [h n hn.1] at hn
  exact absurd hn.2 (by decide)

theorem FlagSet.lowestClear_eq_some {b : FlagSet} {mask : Word} {n : FlagNo} (hm : mask.getLsbD n.val = true)
    (hn : b.flags.getLsbD n.val = false)
    (hlow : ∀ m : FlagNo, m < n → mask.getLsbD m.val = true → b.flags.getLsbD m.val = true) :
    b.lowestClear mask = some n := by
  rw [FlagSet.lowestClear, List.find?_eq_some_iff_getElem]
  refine ⟨by rw [getLsbD_andNot, hm, hn]; rfl, n.val, by simp, by simp, fun j hj => ?_⟩
  have hlt : j < 16 := hj.trans n.isLt
  have hj' : (mask &&& ~~~b.flags).getLsbD j = false := by
    refine Bool.eq_false_iff.2 fun h => ?_
    rw [getLsbD_andNot mask b.flags ⟨j, hlt⟩, Bool.and_eq_true] at h
    rw [hlow ⟨j, hlt⟩ hj h.1] at h
    exact absurd h.2 (by decide)
  rw [List.getElem_finRange]
  exact congrArg (!·) hj'

/-- Each mask operation sets, clears or inverts the flags of the set it is given, and keeps the others. -/
theorem exec_maskOp {p : Port} {c : ReqCode} {i : Instr} (hi : ReqCode.taken p c = some i)
    (hc : c = .setFlags ∨ c = .clearFlags ∨ c = .toggleFlags) : ∃ op : Word → Word → Word,
      (∀ s : State, exec i s = .next (s.onTurn p c (State.withRecord flagsCheck (onFlags (actMask op))))) ∧
      (∀ (flags m : Word) (n : FlagNo), m.getLsbD n.val = true → (op flags m).getLsbD n.val =
        match (generalizing := false) c with
        | .setFlags => true
        | .clearFlags => false
        | _ => !flags.getLsbD n.val) ∧
      ∀ (flags m : Word) (n : FlagNo), m.getLsbD n.val = false → (op flags m).getLsbD n.val = flags.getLsbD n.val := by
  rcases hc with rfl | rfl | rfl <;> cases hi
  · exact ⟨_, fun _ => rfl, fun flags m n hm => by rw [BitVec.getLsbD_or, hm, Bool.or_true],
      fun flags m n hm => by rw [BitVec.getLsbD_or, hm, Bool.or_false]⟩
  · exact ⟨_, fun _ => rfl, fun flags m n hm => by rw [getLsbD_andNot, hm, Bool.not_true, Bool.and_false],
      fun flags m n hm => by rw [getLsbD_andNot, hm, Bool.not_false, Bool.and_true]⟩
  · exact ⟨_, fun _ => rfl, fun flags m n hm => by rw [BitVec.getLsbD_xor, hm, Bool.xor_true],
      fun flags m n hm => by rw [BitVec.getLsbD_xor, hm, Bool.xor_false]⟩

section
variable {s : State} {p : Port} {r : Request} {rest : List Request} {rec : Record} {b : FlagSet}

theorem exec_claim_passes (h : s.atTurn p .claim r rest) (hp : s.passes p r rec) (hb : rec.body = .flags b) :
    exec (.claim p) s = .next (actClaim r.target rec b p r (s.turnTaken p rest)) :=
  congrArg Host.Outcome.next ((State.onTurn_passes h hp (by rw [Record.kind_of_body hb]; rfl) rfl rfl _).trans
    (onFlags_of_body hb ..))

theorem exec_unclaim_passes (h : s.atTurn p .unclaim r rest) (hp : s.passes p r rec) (hb : rec.body = .flags b) :
    exec (.unclaim p) s = .next (actUnclaim r.target rec b p r (s.turnTaken p rest)) :=
  congrArg Host.Outcome.next ((State.onTurn_passes h hp (by rw [Record.kind_of_body hb]; rfl) rfl rfl _).trans
    (onFlags_of_body hb ..))

end

/-! ### SEQUENCE records (R110) -/

/-- The number that NEXT leaves next, modulo 65536. -/
theorem toNat_add_intWord (w : Word) (v : Int) : ((w + intWord v).toNat : Int) = ((w.toNat : Int) + v) % 65536 := by
  rw [BitVec.toNat_add, intWord, BitVec.toNat_ofInt]
  omega

/-! ### Notices and lines (R122, R131) -/

theorem Reasons.toWord_eq (x : Reasons) : x.toWord =
    (if x.body then 1#16 else 0) ||| (if x.alertOn then 2#16 else 0) ||| (if x.alertOff then 4#16 else 0) |||
      (if x.ended then 8#16 else 0) := by
  obtain ⟨a, b, c, d⟩ := x
  revert a b c d
  decide

/-- In a set kept in slot order the entry with the lowest slot stands first, and no other has its slot. -/
theorem lowest_eq_head {l : List ChangedEntry} (ho : l.Pairwise fun a b => a.slot < b.slot) {e : ChangedEntry} (he : e ∈ l)
    (hlow : ∀ d ∈ l, e.slot ≤ d.slot) : l = e :: l.filter fun d => d.slot != e.slot := by
  cases l with
  | nil => cases he
  | cons x rest =>
    obtain ⟨hx, -⟩ := List.pairwise_cons.1 ho
    obtain rfl : e = x := (List.mem_cons.1 he).resolve_right fun hr =>
      absurd (hx e hr) (Fin.not_lt.2 (hlow x List.mem_cons_self))
    rw [List.filter_cons_of_neg (by simp), List.filter_eq_self.2 fun d hd => by simpa using (hx d hd).ne']

theorem toNat_lineWord (n : Nat) : (lineWord n).toNat = (decide (0 < n)).toNat * 32768 + n % 512 := by
  simp only [lineWord, toNat_fields, BitVec.toNat_ofBool, BitVec.toNat_ofNat]
  omega

theorem getLsbD_lineWord (n : Nat) : (lineWord n).getLsbD 15 = decide (0 < n) := by
  simp only [lineWord, BitVec.getLsbD_append]
  simp

end Sys2Proof.Machine

namespace Sys2Proof.Proofs

open Sys2Proof.Machine

/-- Settles O22: the words field by field; the requests answer them and do no more. -/
theorem readAndReadHoldersGiveTheRecord : Obligations.ReadAndReadHoldersGiveTheRecord := by
  refine ⟨Record.toNat_descriptor, fun rec => ?_, Counter.toNat_statusWord,
    fun b p n => ⟨getLsbD_claimed b n, getLsbD_claimedBy b p n⟩, fun s p r rest rec h hp => ?_,
    fun s p r rest rec b h hp hb => ?_⟩
  · rw [Record.inAlert]
    cases rec.body with
    | pool b => simp [Body.inAlert, Pool.inAlert]
    | counter c => simp [Body.inAlert, Counter.inAlert]
    | flags b => exact b.inAlert_iff
    | sequence b => simp [Body.inAlert, Sequence.inAlert]
  · have he : exec (.read p) s = .next (s.answered p rest ⟨r.tag, .done, readAnswer (r.word 0) rec p⟩) :=
      (congrArg Host.Outcome.next (State.onTurn_passes h hp rfl rfl rfl _)).trans
        (congrArg Host.Outcome.next (State.reply_turnTaken h _ _))
    refine ⟨fun b hb => ?_, fun b hb => ?_, fun b hb => ?_, fun b hb => ?_⟩ <;> rw [he, readAnswer, hb] <;> rfl
  · refine (congrArg Host.Outcome.next ((State.onTurn_passes h hp (by rw [Record.kind_of_body hb]; rfl) rfl rfl _).trans ?_))
    rw [onPool_of_body hb]
    exact State.reply_turnTaken h _ _

/-- Settles O24: LIMITS finds a LIVE record, so its event ends with the change report; on a COUNTER the value is clamped. -/
theorem limitsSetsTheKindsLimits : Obligations.LimitsSetsTheKindsLimits := by
  refine ⟨fun s p r rest rec h hp => ?_, fun s p r rest rec b h hp hb => ?_⟩
  · have hl := State.live_atTurn h hp rfl
    refine ⟨fun b hb => ?_, fun b hb => ?_, fun b hb => ?_⟩ <;> rw [exec_limits_passes h hp, actLimits, hb] <;>
      exact congrArg Host.Outcome.next (State.finishEvent_live hl _ _ _)
  · have hl := State.live_atTurn h hp rfl
    have he : exec (.limits p) s = .next (actCounterLimits r.target rec b p r (s.turnTaken p rest)) := by
      rw [exec_limits_passes h hp, actLimits, hb]
    intro floor ceiling low high ends
    refine ⟨fun hbad => ?_, fun hf hm => ?_⟩
    · rw [he, actCounterLimits, if_pos (by simpa using hbad), State.reply_turnTaken h]
    · have hset : exec (.limits p) s = .next ((s.turnTaken p rest).finishCounter r.target rec
          (b.setLimits floor ceiling low high) p r .done (b.value < floor || ceiling < b.value)) := by
        rw [he, actCounterLimits, if_neg (by simpa using ⟨hf, hm⟩)]
      refine ⟨fun h1 h2 => ?_, fun hv => ?_, fun hv => ?_⟩
      · have ho : (decide (b.value < floor) || decide (ceiling < b.value)) = false := by simp; omega
        refine hset.trans (congrArg Host.Outcome.next ?_)
        rw [ho, Counter.setLimits_eq (clampTo_inside h1 h2) ho, Bool.or_false]
        exact State.finishCounter_live hl ..
      · have ho : (decide (b.value < floor) || decide (ceiling < b.value)) = true := by simp [hv]
        refine hset.trans (congrArg Host.Outcome.next ?_)
        rw [ho, Counter.setLimits_eq (clampTo_below hv) ho, Bool.or_true]
        exact State.finishCounter_live hl ..
      · have ho : (decide (b.value < floor) || decide (ceiling < b.value)) = true := by simp [hv]
        refine hset.trans (congrArg Host.Outcome.next ?_)
        rw [ho, Counter.setLimits_eq (clampTo_above hf hv) ho, Bool.or_true]
        exact State.finishCounter_live hl ..

/-- Settles O36: the target of each request, applied under the policy. -/
theorem counterRequestsApplyTheirTarget : Obligations.CounterRequestsApplyTheirTarget := by
  refine ⟨Counter.toNat_statusWord, fun s p c i r rest rec b hi h hp hb hf => ?_⟩
  have hk : (rec.kind == Kind.counter) = true := by rw [Record.kind_of_body hb]; rfl
  intro ends applies
  have happly : c.allowedClosing = false → ∀ t : Int,
      exec i s = .next ((s.turnTaken p rest).applyTarget r.target rec b t p r) → applies t := fun hc t he => by
    have hl := State.live_atTurn h hp hc
    refine ⟨fun h1 h2 => ?_, fun ht hpol => ?_, fun ht hpol => ?_, fun ht hpol => ?_⟩
    · exact he.trans (congrArg _ ((State.applyTarget_inside (by omega)).trans (State.finishCounter_live hl ..)))
    · exact he.trans (congrArg _ ((State.applyTarget_reject ht hpol).trans (State.finishCounter_live hl ..)))
    · refine he.trans (congrArg _ ((State.applyTarget_clip (.inl ht) hpol).trans ?_))
      rw [clampTo_below ht]
      exact State.finishCounter_live hl ..
    · refine he.trans (congrArg _ ((State.applyTarget_clip (.inr ht) hpol).trans ?_))
      rw [clampTo_above hf ht]
      exact State.finishCounter_live hl ..
  refine ⟨?_, ?_, ?_, ?_, ?_⟩
  · rintro rfl
    cases hi
    refine happly rfl _ (congrArg Host.Outcome.next ((State.onTurn_passes h hp hk rfl rfl _).trans ?_))
    exact onCounter_of_body hb ..
  · rintro rfl
    cases hi
    refine happly rfl _ (congrArg Host.Outcome.next ((State.onTurn_passes h hp hk rfl rfl _).trans ?_))
    exact onCounter_of_body hb ..
  · rintro rfl hv
    cases hi
    refine happly rfl _ (congrArg Host.Outcome.next ((State.onTurn_passes h hp hk rfl rfl _).trans ?_))
    exact (onCounter_of_body hb ..).trans (if_pos hv)
  · rintro rfl hv
    cases hi
    refine congrArg Host.Outcome.next ((State.onTurn_passes h hp hk rfl rfl _).trans ?_)
    exact ((onCounter_of_body hb ..).trans (if_neg hv)).trans (State.reply_turnTaken h _ _)
  · rintro rfl
    cases hi
    refine congrArg Host.Outcome.next ((State.onTurn_passes h hp hk rfl rfl _).trans ?_)
    exact (onCounter_of_body hb ..).trans (State.finishCounter_live (State.live_atTurn h hp rfl) ..)

/-- Settles O37: the mask operations flag by flag, and the lowest clear flag that a mask selects. -/
theorem flagRequestsRespectClaims : Obligations.FlagRequestsRespectClaims := by
  refine ⟨fun s p c i r rest rec b hi h hp hb hc => ?_, fun s p r rest rec b hp hb => ⟨fun h => ⟨fun hm => ?_,
    fun n hm hn hlow => ?_⟩, fun h => ⟨fun hw => ?_, fun n hn => ⟨fun hcl => ?_, fun hcl => ?_⟩⟩⟩⟩
  · obtain ⟨op, he, hset, hkeep⟩ := exec_maskOp hi hc
    have hcode : c.ownerOnly = false ∧ c.allowedClosing = false := by rcases hc with rfl | rfl | rfl <;> exact ⟨rfl, rfl⟩
    refine ⟨op b.flags (r.word 1 &&& ~~~b.claimed), r.word 1 &&& b.claimed, ?_, fun n => ⟨?_, fun hm hcl => ?_, fun hout => ?_⟩⟩
    · rw [he, State.onTurn_passes h hp (by rw [Record.kind_of_body hb]; rfl) hcode.1.symm hcode.2.symm,
        onFlags_of_body hb]
      exact congrArg Host.Outcome.next (State.finishEvent_live (State.live_atTurn h hp hcode.2) ..)
    · rw [BitVec.getLsbD_and, getLsbD_claimed]
    · refine hset _ _ n ?_
      rw [getLsbD_unclaimedMask, hm, hcl]
      rfl
    · refine hkeep _ _ n ?_
      rw [getLsbD_unclaimedMask]
      rcases hout with hm | hcl
      · rw [hm, Bool.false_and]
      · rw [Option.isNone_eq_false_iff.2 (Option.isSome_iff_ne_none.2 hcl), Bool.and_false]
  · rw [exec_claim_passes h hp hb, actClaim, FlagSet.lowestClear_eq_none hm, State.reply_turnTaken h]
  · rw [exec_claim_passes h hp hb, actClaim, FlagSet.lowestClear_eq_some hm hn hlow]
    exact congrArg Host.Outcome.next (State.finishEvent_live (State.live_atTurn h hp rfl) ..)
  · rw [exec_unclaim_passes h hp hb, actUnclaim, if_pos hw, State.reply_turnTaken h]
  · have hn' : b.claimant (r.word 1).toNat ≠ some p := by rwa [hn, claimant_eq]
    rw [exec_unclaim_passes h hp hb, actUnclaim, if_neg (by omega), if_pos hn', State.reply_turnTaken h]
  · have hn' : b.claimant (r.word 1).toNat = some p := by rwa [hn, claimant_eq]
    have hfin : Fin.ofNat 16 (r.word 1).toNat = n := by rw [hn]; exact Fin.ofNat_val_eq_self n
    rw [exec_unclaim_passes h hp hb, actUnclaim, if_neg (by omega), if_neg (not_not.2 hn'), hfin]
    rfl

/-- Settles O38: the checks of R110 in their order, and the values issued modulo 65536. -/
theorem nextIssuesAndRefillSets : Obligations.NextIssuesAndRefillSets := by
  intro s p r rest rec b hp hb n ends
  have hk : (rec.kind == Kind.sequence) = true := by rw [Record.kind_of_body hb]; rfl
  refine ⟨fun h => ?_, fun h => ?_⟩
  · have he : exec (.next p) s = .next (actNext r.target rec b p r (s.turnTaken p rest)) :=
      congrArg Host.Outcome.next ((State.onTurn_passes h hp hk rfl rfl _).trans (onSequence_of_body hb ..))
    refine ⟨fun hn => ?_, fun h1 h2 hr => ?_, fun h1 h2 hr => ⟨b.next + intWord (n * b.step), toNat_add_intWord _ _, ?_⟩⟩
    · rw [he, actNext, if_pos (by exact hn), State.reply_turnTaken h]
    · have hn : ¬(n = 0 ∨ 255 < n) := by omega
      rw [he, actNext, if_neg (by exact hn), if_pos (by exact hr), State.reply_turnTaken h]
    · have hn : ¬(n = 0 ∨ 255 < n) := by omega
      rw [he, actNext, if_neg (by exact hn), if_neg (by exact Nat.not_lt.2 hr)]
      exact congrArg Host.Outcome.next (State.finishEvent_live (State.live_atTurn h hp rfl) ..)
  · refine congrArg Host.Outcome.next ((State.onTurn_passes h hp hk rfl rfl _).trans ?_)
    exact (onSequence_of_body hb ..).trans (State.finishEvent_live (State.live_atTurn h hp rfl) ..)

/-- Settles O39: in a set kept in slot order the entry with the lowest slot stands first. -/
theorem noticesAndLineCountsAreRead : Obligations.NoticesAndLineCountsAreRead := by
  refine ⟨fun s p r rest h ho => ?_, fun s p r rest h => ⟨s.lineCounts.toList.map lineWord, by simp, ?_, fun x w hw hc => ?_⟩⟩
  · have he : exec (.nextNotice p) s = .next (takeNextNotice p r (s.turnTaken p rest)) :=
      congrArg Host.Outcome.next (State.onTurn_atTurn h _)
    refine ⟨fun hs => ?_, fun e hmem hlow => ?_⟩
    · have hs' : (s.turnTaken p rest).changed[p.val] = [] := hs
      rw [he, takeNextNotice, hs']
      exact congrArg Host.Outcome.next (State.reply_turnTaken h _ _)
    · have hs : (s.turnTaken p rest).changed[p.val] = e :: s.changed[p.val].filter fun d => d.slot != e.slot :=
        lowest_eq_head (ho p).1 hmem hlow
      rw [he, takeNextNotice, hs, ← Reasons.toWord_eq]
      exact congrArg Host.Outcome.next (State.reply_turnTaken
        (s := { s with changed := s.changed.set p.val (s.changed[p.val].filter fun d => d.slot != e.slot) }) h _ _)
  · exact congrArg Host.Outcome.next ((State.onTurn_atTurn h _).trans (State.reply_turnTaken h _ _))
  · obtain rfl : lineWord s.lineCounts[x.val] = w := by simpa using hw
    refine ⟨?_, getLsbD_lineWord _, ?_⟩
    · rw [toNat_lineWord]; omega
    · rw [lineDrivenLow_iff, Nat.pos_iff_ne_zero]

end Sys2Proof.Proofs
end

section
/-! The requests on POOL records and the grant cascade (O26 to O31). -/

namespace Sys2Proof.Machine

/-! ### Holding lists and reservations, entry by entry (R41, R45, R73) -/

/-- A listed entry that gains units keeps its place. -/
theorem addUnits_split {p : Port} {front back : List Holding} {x : Holding} (hf : ∀ y ∈ front, y.port ≠ p)
    (hx : x.port = p) (n : Nat) : addUnits p n (front ++ x :: back) = front ++ ⟨p, x.units + n⟩ :: back := by
  rw [addUnits, if_pos (by simp [hx]), updateFirst_split (fun y hy => by simpa using hf y hy) (by simp [hx])]
  simp [hx]

theorem addUnits_unlisted {p : Port} {hs : List Holding} (h : ∀ x ∈ hs, x.port ≠ p) (n : Nat) :
    addUnits p n hs = hs ++ [⟨p, n⟩] :=
  if_neg (by simpa using h)

/-- The newest waiter of the port with a reservation gives it. -/
theorem takeReservation_split {p : Port} {front back : List Waiter} {v : Waiter} (hp : v.port = p) (hr : v.reserved = true)
    (hb : ∀ u ∈ back, ¬(u.port = p ∧ u.reserved = true)) :
    takeReservation p (front ++ v :: back) = front ++ { v with reserved := false } :: back := by
  rw [takeReservation, List.reverse_append, List.reverse_cons, List.append_assoc, List.singleton_append,
    updateFirst_split (fun u hu => by simpa using hb u (List.mem_reverse.1 hu)) (by simp [hp, hr])]
  simp

theorem takeReservation_none {p : Port} {ws : List Waiter} (h : ∀ u ∈ ws, ¬(u.port = p ∧ u.reserved = true)) :
    takeReservation p ws = ws := by
  rw [takeReservation, updateFirst_none fun u hu => by simpa using h u (List.mem_reverse.1 hu), List.reverse_reverse]

/-- The oldest waiter of the port without a reservation gets it. -/
theorem giveReservation_split {p : Port} {front back : List Waiter} {w : Waiter}
    (hf : ∀ v ∈ front, (v.port == p && !v.reserved) = false) (hp : w.port = p) (hr : w.reserved = false) :
    giveReservation p (front ++ w :: back) = front ++ { w with reserved := true } :: back :=
  updateFirst_split hf (by simp [hp, hr]) _ _

theorem giveReservation_none {p : Port} {ws : List Waiter} (h : ∀ w ∈ ws, w.port ≠ p) : giveReservation p ws = ws :=
  updateFirst_none (fun w hw => by simp [h w hw]) _

theorem Pool.lists_iff_exists (b : Pool) (p : Port) : b.lists p = true ↔ ∃ h ∈ b.holdings, h.port = p := by
  simp [Pool.lists]

/-! ### Units returned (R45, R52) -/

theorem Pool.waiters_giveBack_kept {p : Port} {n : Nat} {b : Pool} (h : b.unitsOf p ≤ n)
    (hw : (∃ w ∈ b.waiters, w.port = p ∧ w.reserved = true) ∨ ∀ w ∈ b.waiters, w.port ≠ p) :
    (b.giveBack p n).waiters = b.waiters := by
  rw [(Pool.giveBack_whole h).2]
  split
  · rfl
  next hany =>
    refine giveReservation_none (hw.resolve_left fun ⟨w, hmem, hp, hr⟩ => hany ?_)
    exact List.any_eq_true.2 ⟨w, hmem, by simp [hp, hr]⟩

theorem Pool.waiters_giveBack_handed {p : Port} {n : Nat} {b : Pool} {front back : List Waiter} {w : Waiter}
    (h : b.unitsOf p ≤ n) (hs : b.waiters = front ++ w :: back) (hp : w.port = p) (hf : ∀ v ∈ front, v.port ≠ p)
    (hr : ∀ v ∈ b.waiters, v.port = p → v.reserved = false) :
    (b.giveBack p n).waiters = front ++ { w with reserved := true } :: back := by
  have hany : ¬(b.waiters.any fun w => w.port == p && w.reserved) = true := by
    simp only [List.any_eq_true, Bool.and_eq_true, beq_iff_eq, not_exists, not_and, Bool.not_eq_true]
    exact hr
  rw [(Pool.giveBack_whole h).2, if_neg hany, hs]
  exact giveReservation_split (fun v hv => by simp [hf v hv]) hp (hr w (by simp [hs]) hp)

theorem Pool.unitsOf_giveBack_part {p : Port} {n : Nat} {b : Pool} (h : n < b.unitsOf p) :
    (b.giveBack p n).unitsOf p = b.unitsOf p - n := by
  obtain ⟨front, x, back, hs, hx, hf⟩ := Pool.split_of_lists (lists_of_unitsOf (b := b) (p := p) (by omega))
  rw [Pool.unitsOf_split (Pool.giveBack_part_split h hs hx hf) rfl hf, Pool.unitsOf_split hs hx hf]

/-! ### Units taken at once (R47, R49, R67) -/

/-- A turn that finds a pool of entries exhausted sets its reason and is answered so. -/
theorem State.reply_setReason {s : State} {p : Port} {c : ReqCode} {r : Request} {rest : List Request}
    (h : s.atTurn p c r rest) (n : Nat) (result : ResultCode) :
    ((s.turnTaken p rest).setReason n).reply p r result [] =
      { s.answered p rest ⟨r.tag, result, []⟩ with mattnReasons := s.mattnReasons ||| (1#8 <<< n) } :=
  State.reply_turnTaken (s := s.setReason n) h result []

section
variable {s : State} {p : Port} {c : ReqCode} {r : Request} {rest : List Request} {rec : Record} {b : Pool} {n : Nat}

theorem State.serveUnits_exhausted (h : s.atTurn p c r rest) (hl : b.lists p = false) (hf : s.freeHoldings = 0) :
    (s.turnTaken p rest).serveUnits r.target rec b n p r =
      { s.answered p rest ⟨r.tag, .noHoldingEntry, []⟩ with mattnReasons := s.mattnReasons ||| 0x40#8 } := by
  rw [State.serveUnits, if_pos (by simp [hl, hf])]
  exact State.reply_setReason h reasonHoldingExhausted _

theorem State.serveUnits_done (hl : rec.state = .live) (h : b.lists p = true ∨ s.freeHoldings ≠ 0) :
    (s.turnTaken p rest).serveUnits r.target rec b n p r =
      ((s.turnTaken p rest).placeAll [(p, ⟨r.tag, .done, [natWord (b.level - n)]⟩)]).updateRecord r.target rec
        { rec with body := .pool { b with level := b.level - n, holdings := addUnits p n b.holdings } } := by
  have hne : ¬(!b.lists p && (s.turnTaken p rest).freeHoldings == 0) = true := by
    simpa [or_iff_not_imp_left] using h
  rw [State.serveUnits, if_neg hne]
  exact State.finishEvent_live hl ..

end

/-! ### The requests of a POOL at their turn -/

section
variable {s : State} {p : Port} {r : Request} {rest : List Request} {rec : Record} {b : Pool}

theorem exec_acquire_passes (h : s.atTurn p .acquire r rest) (hp : s.passes p r rec) (hb : rec.body = .pool b) :
    exec (.acquire p) s = .next (actAcquire r.target rec b p r (s.turnTaken p rest)) :=
  congrArg Host.Outcome.next ((State.onTurn_passes h hp (by rw [Record.kind_of_body hb]; rfl) rfl rfl _).trans
    (onPool_of_body hb ..))

theorem exec_acquireWait_passes (h : s.atTurn p .acquireWait r rest) (hp : s.passes p r rec) (hb : rec.body = .pool b) :
    exec (.acquireWait p) s = .next (actAcquireWait r.target rec b p r (s.turnTaken p rest)) :=
  congrArg Host.Outcome.next ((State.onTurn_passes h hp (by rw [Record.kind_of_body hb]; rfl) rfl rfl _).trans
    (onPool_of_body hb ..))

theorem exec_release_passes (h : s.atTurn p .release r rest) (hp : s.passes p r rec) (hb : rec.body = .pool b) :
    exec (.release p) s = .next (actRelease r.target rec b p r (s.turnTaken p rest)) :=
  congrArg Host.Outcome.next ((State.onTurn_passes h hp (by rw [Record.kind_of_body hb]; rfl) rfl rfl _).trans
    (onPool_of_body hb ..))

theorem exec_restock_passes (h : s.atTurn p .restock r rest) (hp : s.passes p r rec) (hb : rec.body = .pool b) :
    exec (.restock p) s = .next (actRestock r.target rec b p r (s.turnTaken p rest)) :=
  congrArg Host.Outcome.next ((State.onTurn_passes h hp (by rw [Record.kind_of_body hb]; rfl) rfl rfl _).trans
    (onPool_of_body hb ..))

end

/-! ### GRANT (R73) -/

theorem State.tableActive_of_inService {s : State} (h : s.inService) : s.tableActive = true := by
  simp [State.tableActive, h.1, h.2]

theorem exec_grant {s : State} {i : Slot} {rec : Record} {b : Pool} {w : Waiter} {rest : List Waiter} (hin : s.inService)
    (hs : (s.slot i).record = some rec) (hb : rec.body = .pool b) (hw : b.waiters = w :: rest) (hu : w.units ≤ b.level) :
    exec (.grant i) s = .next (s.finishEvent i rec { rec with body := .pool (b.grantHead w rest) }
      [grantResponse w (b.grantHead w rest)]) := by
  change Host.Outcome.next (if s.tableActive then s.grantAt i else s) = _
  rw [if_pos (State.tableActive_of_inService hin)]
  simp only [State.grantAt, hs, hb, hw, if_pos hu]

theorem Pool.grantHead_eq (w : Waiter) (rest : List Waiter) (b : Pool) : b.grantHead w rest =
    { b with
      level := b.level - w.units
      holdings := addUnits w.port w.units b.holdings
      waiters := if b.lists w.port = true ∨ w.reserved = true then rest else takeReservation w.port rest } := by
  simp [Pool.grantHead, Pool.take]

/-! ### What a cascade grants (R72, R74) -/

/-- The answers to waiters granted one after another from a level: each carries the level after its own grant. -/
def grantAnswers : Nat → List Waiter → List (Port × Response)
  | _, [] => []
  | level, w :: ws => (w.port, ⟨w.tag, .done, [natWord (level - w.units)]⟩) :: grantAnswers (level - w.units) ws

theorem grantAnswers_getElem? (level : Nat) (ws : List Waiter) (j : Nat) : (grantAnswers level ws)[j]? =
    ws[j]?.map fun w => (w.port, ⟨w.tag, .done, [natWord (level - ((ws.take (j + 1)).map (·.units)).sum)]⟩) := by
  induction ws generalizing level j with
  | nil => rfl
  | cons w ws ih =>
    cases j with
    | zero => simp [grantAnswers]
    | succ j => simp [grantAnswers, ih, Nat.sub_sub]

theorem map_answered_grantAnswers (level : Nat) (ws : List Waiter) :
    (grantAnswers level ws).map answered = ws.map Waiter.who := by
  induction ws generalizing level with
  | nil => rfl
  | cons w ws ih => rw [grantAnswers, List.map_cons, ih]; rfl

/-- The answers do not depend on the reservation marks. -/
theorem grantAnswers_of_core {ws vs : List Waiter} (h : ws.map Waiter.core = vs.map Waiter.core) (level : Nat) :
    grantAnswers level ws = grantAnswers level vs := by
  induction ws generalizing vs level with
  | nil => rw [List.map_eq_nil_iff.1 h.symm]
  | cons w ws ih =>
    cases vs with
    | nil => cases h
    | cons v vs =>
      obtain ⟨hc, hrest⟩ := List.cons.inj h
      simp only [Waiter.core, Prod.mk.injEq] at hc
      obtain ⟨hp, ht, hu, -⟩ := hc
      rw [grantAnswers, grantAnswers, hp, ht, hu, ih hrest]

theorem units_of_core {ws vs : List Waiter} (h : ws.map Waiter.core = vs.map Waiter.core) :
    ws.map (·.units) = vs.map (·.units) := by
  have hc := congrArg (List.map fun c => c.2.2.1) h
  rw [List.map_map, List.map_map] at hc
  exact hc

/-- The units that the waiters of port `p` ask for. -/
def unitsAsked (p : Port) (ws : List Waiter) : Nat := ((ws.filter fun w => w.port == p).map (·.units)).sum

theorem unitsAsked_of_core {ws vs : List Waiter} (h : ws.map Waiter.core = vs.map Waiter.core) (p : Port) :
    unitsAsked p ws = unitsAsked p vs := by
  have hf : ∀ l : List Waiter, (l.filter fun w => w.port == p).map (·.units) =
      ((l.map Waiter.core).filter fun c => c.1 == p).map fun c => c.2.2.1 := fun l => by
    rw [List.filter_map, List.map_map]; rfl
  rw [unitsAsked, hf, h, ← hf, unitsAsked]

theorem unitsAsked_cons (p : Port) (w : Waiter) (ws : List Waiter) :
    unitsAsked p (w :: ws) = (if w.port = p then w.units else 0) + unitsAsked p ws := by
  by_cases h : w.port = p <;> simp [unitsAsked, h]

theorem exists_port_of_core {ws vs : List Waiter} (h : ws.map Waiter.core = vs.map Waiter.core) (p : Port) :
    (∃ w ∈ ws, w.port = p) ↔ ∃ w ∈ vs, w.port = p := by
  have hm : ∀ l : List Waiter, (∃ w ∈ l, w.port = p) ↔ p ∈ (l.map Waiter.core).map (·.1) := fun l => by
    rw [List.map_map, List.mem_map]; rfl
  rw [hm, h, ← hm]

/-- The POOL `c` and the answers `rs` after the first `k` waiters of `b` have been granted (R72 to R74). -/
structure Pool.grants (b : Pool) (k : Nat) (c : Pool) (rs : List (Port × Response)) : Prop where
  count : k ≤ b.waiters.length
  answers : rs = grantAnswers b.level (b.waiters.take k)
  waiters : c.waiters.map Waiter.core = (b.waiters.drop k).map Waiter.core
  level : c.level + ((b.waiters.take k).map (·.units)).sum = b.level
  units : ∀ p, c.unitsOf p = b.unitsOf p + unitsAsked p (b.waiters.take k)
  lists : ∀ p, c.lists p = true ↔ b.lists p = true ∨ ∃ w ∈ b.waiters.take k, w.port = p
  ports : b.holdings.map (·.port) <+: c.holdings.map (·.port)

theorem Pool.grants_none (b : Pool) : b.grants 0 b [] :=
  ⟨Nat.zero_le _, rfl, rfl, rfl, fun _ => rfl, fun p => by simp, List.prefix_refl _⟩

/-- One grant before others. -/
theorem Pool.grants_cons {b c : Pool} {w : Waiter} {rest : List Waiter} {k : Nat} {rs : List (Port × Response)}
    (hw : b.waiters = w :: rest) (hu : w.units ≤ b.level) (h : (b.grantHead w rest).grants k c rs) :
    b.grants (k + 1) c (grantResponse w (b.grantHead w rest) :: rs) := by
  have hcore := core_grantHead w rest b
  have htake : ((b.grantHead w rest).waiters.take k).map Waiter.core = (rest.take k).map Waiter.core := by
    rw [List.map_take, hcore, List.map_take]
  obtain ⟨hk, ha, hws, hl, hun, hls, hpo⟩ := h
  rw [length_grantHead] at hk
  rw [units_of_core htake, grantHead_level] at hl
  refine ⟨?_, ?_, ?_, ?_, fun p => ?_, fun p => ?_, (ports_grantHead w rest b).trans hpo⟩
  · rw [hw]; simpa using hk
  · rw [hw, ha, grantAnswers_of_core htake]; rfl
  · rw [hws, hw, List.map_drop, hcore, List.map_drop]; rfl
  · rw [hw]
    simp only [List.take_succ_cons, List.map_cons, List.sum_cons]
    omega
  · rw [hun, unitsOf_grantHead, unitsAsked_of_core htake, hw, List.take_succ_cons, unitsAsked_cons, Nat.add_assoc]
  · rw [hls, lists_grantHead, exists_port_of_core htake, hw, List.take_succ_cons]
    simp [or_assoc]

theorem Pool.grants_cascadeUpTo (n : Nat) (b : Pool) :
    b.grants (Pool.cascadeUpTo n b).2.length (Pool.cascadeUpTo n b).1 (Pool.cascadeUpTo n b).2 := by
  induction n generalizing b with
  | zero => exact b.grants_none
  | succ n ih =>
    cases hw : b.waiters with
    | nil => rw [cascadeUpTo_blocked (by simp [hw])]; exact b.grants_none
    | cons w rest =>
      by_cases hu : w.units ≤ b.level
      · rw [cascadeUpTo_grant hw hu]
        exact Pool.grants_cons hw hu (ih _)
      · rw [cascadeUpTo_blocked (by simp [hw]; omega)]; exact b.grants_none

/-- A cascade grants as many waiters as it answers. -/
theorem Pool.grants_cascade (b : Pool) : b.grants b.cascade.2.length b.cascade.1 b.cascade.2 :=
  Pool.grants_cascadeUpTo _ b

end Sys2Proof.Machine

namespace Sys2Proof.Proofs

open Sys2Proof.Machine

/-- Settles O26: the checks of R48 in their order, then units taken at once. -/
theorem acquireTakesUnitsOrIsRefused : Obligations.AcquireTakesUnitsOrIsRefused := by
  refine ⟨fun p n => ⟨fun front x back hf hx => addUnits_split hf hx n, fun hs h => addUnits_unlisted h n⟩,
    fun s p r rest rec b h hp hb => ?_⟩
  have hl := State.live_atTurn h hp rfl
  intro n
  refine ⟨fun hn => ?_, fun hn hshort => ?_, fun hn hw hlev hlist hf => ?_, fun hn hw hlev hent => ?_⟩ <;>
    rw [exec_acquire_passes h hp hb, actAcquire]
  · rw [if_pos (by exact hn), State.reply_turnTaken h]
  · rw [if_neg (by exact hn), if_pos (by simpa using hshort), State.reply_turnTaken h]
  · rw [if_neg (by exact hn), if_neg (by simpa [hw] using hlev), State.serveUnits_exhausted h hlist hf]
  · rw [if_neg (by exact hn), if_neg (by simpa [hw] using hlev), State.serveUnits_done hl hent]

/-- Settles O27: the checks of R66 in their order, the service at once, or the queuing. -/
theorem acquireWaitServesQueuesOrRefuses : Obligations.AcquireWaitServesQueuesOrRefuses := by
  intro s p r rest rec b h hp hb n timeout
  have hl := State.live_atTurn h hp rfl
  have he := exec_acquireWait_passes h hp hb
  rw [actAcquireWait] at he
  refine ⟨fun hbad => ?_, fun hn ht => ?_⟩
  · rw [he]
    by_cases hn : n = 0
    · rw [if_pos (by exact hn), State.reply_turnTaken h]
    · rw [if_neg (by exact hn), if_pos (by exact hbad.resolve_left hn), State.reply_turnTaken h]
  rw [if_neg (by exact hn), if_neg (by exact Nat.not_lt.2 ht)] at he
  refine ⟨fun hs => ?_, fun hs hw hlev => ?_, fun hs hq => ?_⟩
  · rw [he, if_pos (by exact hs), State.reply_turnTaken h]
  · rw [if_neg (by exact Nat.not_lt.2 hs), if_pos (by simpa [hw] using hlev)] at he
    exact ⟨fun hlist hf => by rw [he, State.serveUnits_exhausted h hlist hf],
      fun hent => by rw [he, State.serveUnits_done hl hent]⟩
  · have hq' : ¬(b.waiters.isEmpty && decide ((r.word 1).toNat ≤ b.level)) = true := by
      simpa [or_iff_not_imp_left] using hq
    rw [if_neg (by exact Nat.not_lt.2 hs), if_neg hq'] at he
    refine ⟨fun hf => ?_, fun hf hlist hh => ?_, fun hf hent => ?_⟩
    · rw [he, if_pos (by exact hf)]
      exact congrArg Host.Outcome.next (State.reply_setReason h reasonWaiterExhausted _)
    · rw [he, if_neg (by exact hf), if_pos (by simp [hlist, hh])]
      exact congrArg Host.Outcome.next (State.reply_setReason h reasonHoldingExhausted _)
    · have hent' : ¬(!b.lists p && (s.turnTaken p rest).freeHoldings == 0) = true := by
        simpa [or_iff_not_imp_left] using hent
      rw [he, if_neg (by exact hf), if_neg hent']
      exact congrArg Host.Outcome.next (State.finishEvent_live hl ..)

/-- Settles O28: the checks of R51, then what the return of units does to the list and the queue. -/
theorem releaseReturnsUnitsAndCascades : Obligations.ReleaseReturnsUnitsAndCascades := by
  intro s p r rest rec b h hp hb n c
  have he := exec_release_passes h hp hb
  rw [actRelease] at he
  refine ⟨fun hn => ?_, fun hn hu => ?_, fun hn hu => ⟨?_, b.giveBack_level p n, b.giveBack_stock p n, b.giveBack_lowMark p n,
    fun hall => ⟨(Pool.giveBack_whole hall.le).1, Pool.waiters_giveBack_kept hall.le,
      fun front w back hs hw hf hr => Pool.waiters_giveBack_handed hall.le hs hw hf hr⟩,
    fun front x back hlt hs hx hf => Pool.giveBack_part_split hlt hs hx hf,
    fun hlt => ⟨(Pool.giveBack_part hlt).2, Pool.unitsOf_giveBack_part hlt, Pool.ports_giveBack_part hlt⟩⟩⟩
  · rw [he, if_pos (by exact hn), State.reply_turnTaken h]
  · rw [he, if_neg (by exact hn), if_pos (by exact hu), State.reply_turnTaken h]
  · rw [he, if_neg (by exact hn), if_neg (by exact Nat.not_lt.2 hu)]
    rfl

/-- Settles O29: by the sign of the delta. -/
theorem restockMovesStockAndLevel : Obligations.RestockMovesStockAndLevel := by
  intro s p r rest rec b h hp hb delta n up low above down done
  have he := exec_restock_passes h hp hb
  rw [actRestock] at he
  have hup : 0 < delta → delta.toNat = n := fun h => by omega
  have hdown : delta < 0 → (-delta).toNat = n := fun h => by omega
  refine ⟨fun hd => ?_, fun hd hlim => ?_, fun hd hlim => ?_, fun hd hlev => ?_, fun hd hlev => ?_⟩
  · rw [he, if_pos (by exact hd)]
    exact congrArg Host.Outcome.next (State.reply_turnTaken h _ _)
  · rw [he, if_neg (by exact hd.ne'), if_pos (by exact hd), hup hd, restockUp, if_pos hlim, State.reply_turnTaken h]
  · rw [he, if_neg (by exact hd.ne'), if_pos (by exact hd), hup hd, restockUp, if_neg (Nat.not_lt.2 hlim)]
    rfl
  · rw [he, if_neg (by exact hd.ne), if_neg (by exact hd.not_gt), hdown hd, restockDown, if_pos hlev, State.reply_turnTaken h]
  · rw [he, if_neg (by exact hd.ne), if_neg (by exact hd.not_gt), hdown hd, restockDown, if_neg (Nat.not_lt.2 hlev)]
    rfl

/-- Settles O30: the grant of a head that the level serves, and where its reservation goes. -/
theorem grantOfTheHeadWaiter : Obligations.GrantOfTheHeadWaiter := by
  refine ⟨fun p => ⟨fun front v back hp hr hb => takeReservation_split hp hr hb, fun ws h => takeReservation_none h⟩,
    fun p n => ⟨fun front x back hf hx => addUnits_split hf hx n, fun hs h => addUnits_unlisted h n⟩,
    fun s i rec b w rest hin hs hb hw hu => ?_⟩
  rw [exec_grant hin hs hb hw hu, Pool.grantHead_eq]
  rfl

/-- Settles O31: the cascade grants the first waiters of the queue, as many as it answers. -/
theorem cascadeGrantsFromTheFront : Obligations.CascadeGrantsFromTheFront := by
  refine ⟨fun b => ⟨rfl, fun p => ⟨b.lists_iff_exists p, Pool.unitsOf_unlisted,
    fun front x back hs hx hf => Pool.unitsOf_split hs hx hf⟩⟩, fun b => ⟨b.cascade.2.length, ?_⟩⟩
  obtain ⟨hk, ha, hws, hl, hun, hls, hpo⟩ := b.grants_cascade
  have hheld := units_cascade b
  refine ⟨hk, ?_, hws, hl, fun j hj => ?_, cascadeUpTo_stops _ b le_rfl, cascade_stock b, cascade_lowMark b, by omega, hun, hls, hpo⟩
  · have := map_answered_grantAnswers b.level (b.waiters.take b.cascade.2.length)
    rw [← ha] at this
    exact this
  · have hj' : j < b.waiters.length := hj.trans_le hk
    rw [ha, grantAnswers_getElem?, List.getElem?_take_of_lt hj, List.getElem?_eq_getElem hj', List.take_take,
      Nat.min_eq_left hj]
    rfl

end Sys2Proof.Proofs
end

section
/-! Waiters that end other than by grant (O32, O33, O35) and the unit boundary (O34). -/

namespace Sys2Proof.Machine

/-! ### `updateFirst`, place by place -/

theorem take_updateFirst {α : Type} (q : α → Bool) (f : α → α) (l : List α) (j : Nat) :
    (updateFirst q f l).take j = updateFirst q f (l.take j) := by
  induction l generalizing j with
  | nil => simp [updateFirst]
  | cons x xs ih =>
    cases j with
    | zero => rfl
    | succ j =>
      by_cases hx : q x = true
      · rw [updateFirst_pos hx, List.take_succ_cons, List.take_succ_cons, updateFirst_pos hx]
      · rw [updateFirst_neg hx, List.take_succ_cons, List.take_succ_cons, updateFirst_neg hx, ih]

/-- The element in a place is changed when it is the first that meets the selection. -/
theorem getElem?_updateFirst {α : Type} (q : α → Bool) (f : α → α) (l : List α) (j : Nat) : (updateFirst q f l)[j]? =
    l[j]?.map fun x => if q x = true ∧ (l.take j).countP q = 0 then f x else x := by
  induction l generalizing j with
  | nil => rfl
  | cons x xs ih =>
    by_cases hx : q x = true
    · rw [updateFirst_pos hx]
      cases j with
      | zero => simp [hx]
      | succ j => simp [hx]
    · rw [updateFirst_neg hx]
      cases j with
      | zero => simp [hx]
      | succ j => simp [hx, ih]

/-- A change that ends the selection of its element takes one from the count. -/
theorem countP_updateFirst_self {α : Type} {q : α → Bool} {f : α → α} (hf : ∀ x, q x = true → q (f x) = false) (l : List α) :
    (updateFirst q f l).countP q = l.countP q - 1 := by
  induction l with
  | nil => rfl
  | cons x xs ih =>
    by_cases hx : q x = true
    · rw [updateFirst_pos hx]; simp [hx, hf x hx]
    · rw [updateFirst_neg hx]; simp [hx, ih]

/-! ### Reservations handed on, place by place (R45, R71) -/

/-- The waiters of port `p` without a reservation. -/
def unreserved (p : Port) (w : Waiter) : Bool := w.port == p && !w.reserved

theorem giveReservation_eq (p : Port) (ws : List Waiter) :
    giveReservation p ws = updateFirst (unreserved p) (fun w => { w with reserved := true }) ws := rfl

theorem unreserved_give (p : Port) (w : Waiter) (_ : unreserved p w = true) :
    unreserved p { w with reserved := true } = false := by simp [unreserved]

theorem unreserved_port {p : Port} {w : Waiter} (h : unreserved p w = true) : w.port = p := by
  simpa using (Bool.and_eq_true_iff.1 h).1

/-- A reservation given to one port leaves the waiters of another in their places. -/
theorem getElem?_giveReservation_ne {p : Port} {ws : List Waiter} {j : Nat} {w : Waiter} (hw : ws[j]? = some w)
    (hp : w.port ≠ p) : (giveReservation p ws)[j]? = some w := by
  rw [giveReservation_eq, getElem?_updateFirst, hw, Option.map_some, if_neg fun h => hp (unreserved_port h.1)]

theorem countP_unreserved_giveReservation_ne {p q : Port} (h : p ≠ q) (ws : List Waiter) :
    (giveReservation p ws).countP (unreserved q) = ws.countP (unreserved q) := by
  have hf := congrArg (List.countP fun w : Waiter => !w.reserved) (filter_giveReservation_ne h ws)
  rw [List.countP_filter, List.countP_filter] at hf
  have hu : unreserved q = fun w => !w.reserved && w.port == q := funext fun w => Bool.and_comm ..
  rw [hu]
  exact hf

/-- A waiter in its place keeps its reservation, and gets one when more reservations of its port ended than waiters of the
port stand before it without one. -/
theorem reserved_handOn {b : Pool} {p : Port} (hp : b.lists p = false) {ended rest : List Waiter} {j : Nat} {w : Waiter}
    (hw : rest[j]? = some w) (hwp : w.port = p) : ((handOn b ended rest)[j]?).map (·.reserved) =
      some (w.reserved || decide ((rest.take j).countP (unreserved p) < reservedOf p ended)) := by
  induction ended generalizing rest w with
  | nil => simp [handOn, hw, reservedOf]
  | cons v ended ih =>
    rw [handOn_cons]
    by_cases hv : v.port = p ∧ v.reserved = true
    · obtain ⟨hvp, hvr⟩ := hv
      have hend : reservedOf p (v :: ended) = reservedOf p ended + 1 := by simp [reservedOf, hvp, hvr]
      have hat : (giveReservation p rest)[j]? =
          some (if unreserved p w = true ∧ (rest.take j).countP (unreserved p) = 0 then { w with reserved := true } else w) := by
        rw [giveReservation_eq, getElem?_updateFirst, hw, Option.map_some]
      have hcount : ((giveReservation p rest).take j).countP (unreserved p) = (rest.take j).countP (unreserved p) - 1 := by
        rw [giveReservation_eq, take_updateFirst, countP_updateFirst_self (unreserved_give p)]
      rw [hvp, if_pos (by simp [hvr, hp]), ih hat (by split <;> exact hwp), hcount, hend]
      by_cases hr : w.reserved = true
      · have : unreserved p w = false := by simp [unreserved, hr]
        simp [this, hr]
      · have : unreserved p w = true := by simp [unreserved, hwp, hr]
        by_cases h0 : (rest.take j).countP (unreserved p) = 0
        · simp [this, h0]
        · simp [h0, hr]; omega
    · have hend : reservedOf p (v :: ended) = reservedOf p ended := by
        simp only [reservedOf, List.countP_cons]
        rw [if_neg (by simpa using hv)]
        rfl
      rw [hend]
      split
      next hgive =>
        have hne : v.port ≠ p := fun hvp => hv ⟨hvp, (Bool.and_eq_true_iff.1 hgive).1⟩
        rw [ih (getElem?_giveReservation_ne hw (hwp ▸ hne.symm)) hwp, giveReservation_eq, take_updateFirst,
          ← giveReservation_eq, countP_unreserved_giveReservation_ne hne]
      · exact ih hw hwp

/-! ### The order of the responses of an event that ends waiters (R12) -/

theorem mergeResponses_pos {q : Waiter → Bool} {w : Waiter} (h : q w = true) (r : ResultCode) (ws : List Waiter)
    (grants : List (Port × Response)) : mergeResponses q (some r) (w :: ws) grants =
      (w.port, ⟨w.tag, r, []⟩) :: mergeResponses q (some r) ws grants := by
  simp [mergeResponses, h]

theorem mergeResponses_kept_nil {q : Waiter → Bool} {w : Waiter} (h : q w = false) (result : Option ResultCode)
    (ws : List Waiter) : mergeResponses q result (w :: ws) [] = mergeResponses q result ws [] := by
  simp [mergeResponses, h]

theorem mergeResponses_kept_cons {q : Waiter → Bool} {w : Waiter} (h : q w = false) (result : Option ResultCode)
    (ws : List Waiter) (g : Port × Response) (gs : List (Port × Response)) :
    mergeResponses q result (w :: ws) (g :: gs) = g :: mergeResponses q result ws gs := by
  simp [mergeResponses, h]

/-- Where no waiter ends, the responses are those of the grants. -/
theorem mergeResponses_unmet {q : Waiter → Bool} {ws : List Waiter} (h : ∀ w ∈ ws, q w = false) (result : Option ResultCode)
    (grants : List (Port × Response)) : mergeResponses q result ws grants = grants := by
  induction ws generalizing grants with
  | nil => rfl
  | cons w ws ih =>
    have ih' := ih fun v hv => h v (by simp [hv])
    cases grants with
    | nil => rw [mergeResponses_kept_nil (h w (by simp)), ih']
    | cons g gs => rw [mergeResponses_kept_cons (h w (by simp)), ih']

/-- The response that a waiter of the queue gets, by its place: the event's result when it ends, else the grant that comes to
it after those of the kept waiters before it. -/
def responseAt (q : Waiter → Bool) (r : ResultCode) (ws : List Waiter) (grants : List (Port × Response)) (j : Nat) :
    Option (Port × Response) :=
  (ws[j]?).bind fun w => if q w then some (w.port, ⟨w.tag, r, []⟩) else grants[(ws.take j).countP fun v => !q v]?

theorem mergeResponses_eq (q : Waiter → Bool) (r : ResultCode) (ws : List Waiter) (grants : List (Port × Response))
    (h : grants.length ≤ ws.countP fun w => !q w) :
    mergeResponses q (some r) ws grants = (List.range ws.length).filterMap (responseAt q r ws grants) := by
  induction ws generalizing grants with
  | nil => rw [List.length_eq_zero_iff.1 (Nat.le_zero.1 h)]; rfl
  | cons w ws ih =>
    rw [List.length_cons, List.range_succ_eq_map, List.filterMap_cons, List.filterMap_map]
    by_cases hq : q w = true
    · have hshift : responseAt q r (w :: ws) grants ∘ Nat.succ = responseAt q r ws grants := by
        funext j; simp [responseAt, hq]
      rw [mergeResponses_pos hq, hshift, ih grants (by simpa [hq] using h)]
      simp [responseAt, hq]
    · have hq' : q w = false := by simpa using hq
      cases grants with
      | nil =>
        have hshift : responseAt q r (w :: ws) [] ∘ Nat.succ = responseAt q r ws [] := by
          funext j; simp [responseAt]
        rw [mergeResponses_kept_nil hq', hshift, ih [] (Nat.zero_le _)]
        simp [responseAt, hq']
      | cons g gs =>
        have hshift : responseAt q r (w :: ws) (g :: gs) ∘ Nat.succ = responseAt q r ws gs := by
          funext j; simp [responseAt, hq']
        rw [mergeResponses_kept_cons hq', hshift, ih gs (by simpa [hq'] using h)]
        simp [responseAt, hq']

/-- An element that a selection keeps stands behind as many kept ones as it had before it. -/
theorem getElem?_filter_of_countP {α : Type} {f : α → Bool} {l : List α} {j : Nat} {x : α} (hx : l[j]? = some x)
    (hf : f x = true) : (l.filter f)[(l.take j).countP f]? = some x := by
  induction l generalizing j with
  | nil => cases hx
  | cons y ys ih =>
    cases j with
    | zero =>
      obtain rfl : y = x := by simpa using hx
      simp [hf]
    | succ j =>
      have hx' : ys[j]? = some x := by simpa using hx
      by_cases hy : f y = true <;> simp [hy, ih hx']

/-! ### An event that ends waiters -/

theorem Pool.endAndCascade_head {q : Waiter → Bool} {b : Pool} {w : Waiter} (hw : b.waiters.head? = some w) (hq : q w = true) :
    b.endAndCascade q = (b.endWaiters q).cascade := by
  rw [Pool.endAndCascade, if_pos (by simp [hw, hq])]

theorem Pool.endAndCascade_behind {q : Waiter → Bool} {b : Pool} (h : ∀ w, b.waiters.head? = some w → q w = false) :
    b.endAndCascade q = (b.endWaiters q, []) := by
  rw [Pool.endAndCascade, if_neg]
  cases hw : b.waiters.head? with
  | none => simp
  | some w => simp [h w hw]

/-! ### CANCEL (R79) -/

theorem isWaiter_eq_true {p : Port} {t : Tag} {w : Waiter} : isWaiter p t w = true ↔ w.port = p ∧ w.tag = t := by
  simp [isWaiter]

theorem isWaiter_eq_false {p : Port} {t : Tag} {w : Waiter} : isWaiter p t w = false ↔ ¬(w.port = p ∧ w.tag = t) := by
  rw [← isWaiter_eq_true, Bool.not_eq_true]

theorem State.slotOfWaiter_eq_none {s : State} {p : Port} {t : Tag}
    (h : ∀ i : Slot, ∀ w ∈ (s.slot i).waiters, ¬(w.port = p ∧ w.tag = t)) : s.slotOfWaiter p t = none :=
  find_slot_eq_none fun i => List.any_eq_false.2 fun w hw => by simpa [isWaiter] using h i w hw

theorem State.slotOfWaiter_eq_some {s : State} {p : Port} {t : Tag} {i : Slot} {w : Waiter} (hw : w ∈ (s.slot i).waiters)
    (hwp : w.port = p ∧ w.tag = t) (hlow : ∀ j : Slot, j < i → ∀ v ∈ (s.slot j).waiters, ¬(v.port = p ∧ v.tag = t)) :
    s.slotOfWaiter p t = some i :=
  find_slot_eq_some (List.any_eq_true.2 ⟨w, hw, isWaiter_eq_true.2 hwp⟩) fun j hj =>
    List.any_eq_false.2 fun v hv => by simpa [isWaiter] using hlow j hj v hv

theorem SlotState.waiters_of_pool {x : SlotState} {rec : Record} {b : Pool} (hx : x.record = some rec)
    (hb : rec.body = .pool b) : x.waiters = b.waiters := by
  simp [SlotState.waiters, hx, hb, Body.waiters]

theorem exec_cancel {s : State} {p : Port} {r : Request} {rest : List Request} (h : s.atTurn p .cancel r rest) :
    exec (.cancel p) s = .next (takeCancel p r (s.turnTaken p rest)) :=
  congrArg Host.Outcome.next (State.onTurn_atTurn h _)

/-! ### The unit boundary (R77) -/

theorem exec_unitBoundary_ready {s : State} (h : s.inService) : exec .unitBoundary s = .next
    { s with slots := s.slots.map SlotState.countDown, expiryEvents := s.expiryEvents ++ s.newExpiries, unitPos := 0 } := by
  change Host.Outcome.next (if s.resetAsserted then s else s.boundary) = _
  rw [if_neg (by simp [h.1]), State.boundary, if_pos h.2]

theorem SlotState.countDown_pool {x : SlotState} {rec : Record} {b : Pool} (hx : x.record = some rec)
    (hb : rec.body = .pool b) : x.countDown.record = some { rec with body := .pool { b with
      waiters := b.waiters.map fun w => { w with timeout := w.timeout.map fun t => t - 1 } } } := by
  simp only [SlotState.countDown, hx, Option.map_some, hb, Body.countDown]
  rfl

theorem SlotState.countDown_other {x : SlotState} {rec : Record} (hx : x.record = some rec) (hb : ∀ b, rec.body ≠ .pool b) :
    x.countDown.record = some rec := by
  have hbody : rec.body.countDown = rec.body := by
    cases h : rec.body with
    | pool b => exact absurd h (hb b)
    | counter | flags | sequence => rfl
  simp [SlotState.countDown, hx, hbody]

theorem State.mem_newExpiries {s : State} {i : Slot} {g : Gen} : (i, g) ∈ s.newExpiries ↔
    (s.slot i).gen = g ∧ (i, g) ∉ s.expiryEvents ∧ ∃ w ∈ (s.slot i).waiters, w.timeout = some 1 := by
  simp only [State.newExpiries, List.mem_map, List.mem_filter, allSlots, List.mem_finRange, true_and, Bool.and_eq_true,
    List.any_eq_true, Waiter.expiresNow, beq_iff_eq, Bool.not_eq_true', List.contains_eq_mem, decide_eq_false_iff_not,
    Prod.mk.injEq]
  constructor
  · rintro ⟨j, ⟨hw, he⟩, rfl, rfl⟩
    exact ⟨rfl, he, hw⟩
  · rintro ⟨rfl, he, hw⟩
    exact ⟨i, ⟨hw, he⟩, rfl, rfl⟩

theorem State.nodup_newExpiries (s : State) : s.newExpiries.Nodup :=
  List.Nodup.map (fun _ _ h => congrArg Prod.fst h) ((List.nodup_finRange 256).filter _)

/-! ### EXPIRY (R78) -/

theorem exec_expiry {s : State} {i : Slot} {g : Gen} (hin : s.inService) (hmem : (i, g) ∈ s.expiryEvents) :
    exec (.expiry i g) s = .next (({ s with expiryEvents := s.expiryEvents.erase (i, g) } : State).expireAt i g) := by
  change Host.Outcome.next (if s.tableActive && s.expiryEvents.contains (i, g) then _ else s) = _
  rw [if_pos (by simp [State.tableActive_of_inService hin, hmem])]

theorem State.expireAt_pool {s : State} {i : Slot} {g : Gen} {rec : Record} {b : Pool} (hs : (s.slot i).record = some rec)
    (hb : rec.body = .pool b) (hg : (s.slot i).gen = g) :
    s.expireAt i g = s.endWaitersEvent i rec b Waiter.expired .timeout [] := by
  simp [State.expireAt, hs, hb, hg]

theorem State.expireAt_stale {s : State} {i : Slot} {g : Gen} (h : (s.slot i).record = none ∨ (s.slot i).gen ≠ g) :
    s.expireAt i g = s := by
  unfold State.expireAt
  split
  · rfl
  next rec hr =>
    split
    · exact if_neg (h.resolve_left (by simp [hr]))
    all_goals rfl

end Sys2Proof.Machine

namespace Sys2Proof.Proofs

open Sys2Proof.Machine

/-- Settles O32: who is left and with what, place by place, and the responses in the places of their waiters. -/
theorem endedWaitersLeaveTheQueue : Obligations.EndedWaitersLeaveTheQueue := by
  refine ⟨fun b q => ⟨core_endWaiters q b, rfl, rfl, rfl, rfl, fun p hp => filter_handOn_listed hp _ _, fun p hp => ?_,
    fun j w hw hp => ?_⟩, fun b q result => ?_⟩
  · have h1 := reservedOf_handOn hp (b.waiters.filter q) (b.waiters.filter fun w => !q w)
    rw [Nat.add_comm, ← reservedOf_filter_split, List.countP_filter] at h1
    exact h1
  · rw [Pool.endWaiters, reserved_handOn hp hw rfl, reservedOf, List.countP_filter]
    rfl
  · have hcore := core_endWaiters q b
    obtain ⟨hk, ha, -⟩ := (b.endWaiters q).grants_cascade
    obtain ⟨rs, hrs⟩ : ∃ rs, (b.endWaiters q).cascade.2 = rs := ⟨_, rfl⟩
    rw [hrs] at hk ha
    have hlen : (b.endWaiters q).waiters.length = (b.waiters.filter fun w => !q w).length := by
      simpa using congrArg List.length hcore
    have hgrant : ∀ n : Nat, rs[n]? = _ := fun n => (congrArg (·[n]?) (ha.trans (grantAnswers_of_core
      (vs := (b.waiters.filter fun w => !q w).take rs.length) (by rw [List.map_take, hcore, List.map_take]) _))).trans
        (grantAnswers_getElem? ..)
    intro kept c
    have hc : c.2 = rs := hrs
    rw [hc, mergeResponses_eq q result b.waiters rs (by rw [List.countP_eq_length_filter, ← hlen]; exact hk)]
    refine List.filterMap_congr fun j _ => ?_
    rw [responseAt]
    cases hw : b.waiters[j]? with
    | none => rfl
    | some w =>
      simp only [Option.bind_some]
      by_cases hq : q w = true
      · rw [if_pos hq, if_pos hq]
      · have hkept := getElem?_filter_of_countP (f := fun v => !q v) hw (by simpa using hq)
        rw [if_neg hq, if_neg hq, hgrant]
        by_cases hn : (b.waiters.take j).countP (fun v => !q v) < rs.length
        · rw [List.getElem?_take_of_lt hn, hkept, List.take_take, Nat.min_eq_left hn]
          exact (if_pos hn).symm
        · rw [List.getElem?_take_eq_none (Nat.not_lt.1 hn)]
          exact (if_neg hn).symm

/-- Settles O33: the one waiter of the port with the tag, at the head of the queue or behind it. -/
theorem cancelEndsThePortsWaiter : Obligations.CancelEndsThePortsWaiter := by
  intro s p r rest h
  refine ⟨fun hbad => ?_, fun tag htag => ?_⟩
  · rw [exec_cancel h, takeCancel, if_pos hbad, State.reply_turnTaken h]
  have hle : ¬15 < (r.word 0).toNat := by have := tag.isLt; omega
  have ht : BitVec.ofNat 4 (r.word 0).toNat = tag := by rw [htag]; simp
  refine ⟨fun hnone => ?_, fun i rec b front back w hs hb hws hwp hwt hothers hlow => ?_⟩
  · have hslot : (s.turnTaken p rest).slotOfWaiter p tag = none := State.slotOfWaiter_eq_none hnone
    rw [exec_cancel h, takeCancel, if_neg hle, ht, hslot]
    exact congrArg Host.Outcome.next (State.reply_turnTaken h _ _)
  · have hw : isWaiter p tag w = true := isWaiter_eq_true.2 ⟨hwp, hwt⟩
    have hothers' : ∀ v ∈ front ++ back, isWaiter p tag v = false := fun v hv => isWaiter_eq_false.2 (hothers v hv)
    have hslot : (s.turnTaken p rest).slotOfWaiter p tag = some i := State.slotOfWaiter_eq_some
      (w := w) (by rw [State.turnTaken_slot, SlotState.waiters_of_pool hs hb, hws]; simp) ⟨hwp, hwt⟩ hlow
    have he : exec (.cancel p) s = .next
        ((s.turnTaken p rest).endWaitersEvent i rec b (isWaiter p tag) .cancelled [(p, answer r .done [])]) := by
      rw [exec_cancel h, takeCancel, if_neg hle, ht, hslot]
      simp only [State.cancelAt, State.turnTaken_slot, hs, hb]
    intro left
    refine ⟨fun hf => ?_, fun hf => ?_⟩
    · subst hf
      rw [he, State.endWaitersEvent, Pool.endAndCascade_head (by rw [hws]; rfl) hw, hws, List.nil_append, mergeResponses_pos hw,
        mergeResponses_unmet (by simpa using hothers'), hwp, hwt]
      rfl
    · have hhead : ∀ v, b.waiters.head? = some v → isWaiter p tag v = false := fun v hv => hothers' v (by
        rw [hws, List.head?_append_of_ne_nil _ hf] at hv
        exact List.mem_append_left _ (List.mem_of_mem_head? hv))
      have hended : b.waiters.filter (isWaiter p tag) = [w] := by
        rw [hws, List.filter_append, List.filter_cons_of_pos hw,
          List.filter_eq_nil_iff.2 fun v hv => by simp [hothers' v (by simp [hv])],
          List.filter_eq_nil_iff.2 fun v hv => by simp [hothers' v (by simp [hv])]]
        rfl
      rw [he, State.endWaitersEvent, Pool.endAndCascade_behind hhead, mergeResponses_nil, hended, List.map_singleton, hwp, hwt]
      rfl

/-- Settles O34: the boundary counts every waiter down and hands on one event for a record that a waiter expires on. -/
theorem unitBoundaryCountsDown : Obligations.UnitBoundaryCountsDown := by
  refine fun s => ⟨fun hr => ?_, fun hr hc => ?_, fun hin => ⟨_, _, exec_unitBoundary_ready hin, fun i => ?_,
    fun i g => State.mem_newExpiries, s.nodup_newExpiries⟩⟩
  · change Host.Outcome.next (if s.resetAsserted then s else s.boundary) = _
    rw [if_pos hr]
  · change Host.Outcome.next (if s.resetAsserted then s else s.boundary) = _
    rw [if_neg (by simp [hr]), State.boundary, if_neg hc]
  · have hi : (s.slots.map SlotState.countDown)[i.val] = (s.slot i).countDown := by simp [State.slot]
    rw [hi]
    exact ⟨rfl, fun hn => by simp [SlotState.countDown, hn], fun rec hr =>
      ⟨fun b hb => SlotState.countDown_pool hr hb, fun hb => SlotState.countDown_other hr hb⟩⟩

/-- Settles O35: a stale event is only taken off; another ends the waiters at 0. -/
theorem expiryEndsWaitersAtZero : Obligations.ExpiryEndsWaitersAtZero := by
  intro s i g hin hmem s1
  refine ⟨fun h => ?_, fun rec b hs hg hb => ⟨fun ⟨w, hw, ht⟩ => ?_, fun hhead => ?_⟩⟩
  · rw [exec_expiry hin hmem, State.expireAt_stale (by exact h)]
  · have hq : Waiter.expired w = true := by simp [Waiter.expired, ht]
    rw [exec_expiry hin hmem, State.expireAt_pool (by exact hs) hb (by exact hg), State.endWaitersEvent,
      Pool.endAndCascade_head hw hq, List.append_nil]
    rfl
  · have hq : ∀ w, b.waiters.head? = some w → Waiter.expired w = false := fun w hw => by
      simpa [Waiter.expired] using hhead w hw
    rw [exec_expiry hin hmem, State.expireAt_pool (by exact hs) hb (by exact hg), State.endWaitersEvent,
      Pool.endAndCascade_behind hq, List.append_nil, mergeResponses_nil]
    rfl

end Sys2Proof.Proofs
end

section
/-! The port reset by its mode (O40) and the commands of the maintenance link but the reading ones (O43, O44, O46, O47). -/

namespace Sys2Proof.Machine

/-! ### The port reset (R154, R159) -/

theorem State.portReset_draining {s : State} {p : Port} (h : (s.port p).mode = .draining) : s.portReset p = s := by
  rw [State.portReset, h]

theorem reclaimDone_bit (p : Port) : 1#8 <<< reasonReclaimDone p = 0x04#8 <<< p.val := by
  revert p; decide

theorem State.portReset_offline {s : State} {p : Port} (h : (s.port p).mode = .offline) : s.portReset p = { s with
    ports := s.ports.set p.val (PortState.cleared .offline (s.port p))
    mattnReasons := s.mattnReasons ||| (0x04#8 <<< p.val) } := by
  rw [State.portReset, h, ← reclaimDone_bit]
  rfl

theorem State.portReset_taken {s : State} {p : Port} (h : (s.port p).mode = .online ∨ (s.port p).mode = .fenced) :
    s.portReset p = s.enterDraining p := by
  rcases h with h | h <;> rw [State.portReset, h]

/-! ### A command of the link where it is taken (R172, R174) -/

/-- Each command of the link is taken at its place in the frame, by one action. -/
theorem exec_linkCommand {c : LinkCommand} {b : Byte} {i : Instr}
    (hi : i = LinkCommand.taken b c ∨ (c = .purge ∧ i = .purge (.deferred b))) : ∃ act : State → State,
      ∀ s : State, exec i s = .next (if c.argCount = 0 then s.onCommand c act else s.onArgument c act) := by
  rcases hi with rfl | ⟨rfl, rfl⟩
  · cases c <;> exact ⟨_, fun _ => rfl⟩
  · exact ⟨_, fun _ => rfl⟩

theorem State.settlePurge_none {s : State} (h : s.purgeSlot = none) : s.settlePurge = s := by
  rw [State.settlePurge, h]

theorem State.takeCommand_refused {s : State} {c : LinkCommand} {st : LinkStatus} (hp : s.purgeSlot = none)
    (hl : s.linkRefusal c = some st) (act : State → State) : s.takeCommand c act = s.linkAnswer st [] := by
  rw [State.takeCommand, State.settlePurge_none hp]
  simp only [hl]
  rfl

theorem State.takeCommand_executed {s : State} {c : LinkCommand} (hp : s.purgeSlot = none) (hl : s.linkRefusal c = none)
    (act : State → State) : s.takeCommand c act = act s := by
  rw [State.takeCommand, State.settlePurge_none hp]
  simp only [hl]

/-- Out of reset a command is taken where the frame waits for it. -/
theorem State.onFrame_taken {s : State} {c : LinkCommand} (hr : s.resetAsserted = false)
    (hf : s.frame = if c.argCount = 0 then .command else .argument c) (act : State → State) :
    (if c.argCount = 0 then s.onCommand c act else s.onArgument c act) = s.takeCommand c act := by
  by_cases hc : c.argCount = 0
  · rw [if_pos hc] at hf ⊢
    rw [State.onCommand, if_pos hf, State.outOfReset_released hr]
  · rw [if_neg hc] at hf ⊢
    rw [State.onArgument, if_pos hf, State.outOfReset_released hr]

theorem State.onCommand_executed {s : State} {c : LinkCommand} (h : s.awaits c) (hc : c.argCount = 0)
    (hl : s.linkRefusal c = none) (act : State → State) : s.onCommand c act = act s := by
  have ht := State.onFrame_taken h.2.1 h.1 act
  rw [if_pos hc] at ht
  exact ht.trans (State.takeCommand_executed h.2.2 hl act)

theorem State.onArgument_executed {s : State} {c : LinkCommand} (h : s.awaits c) (hc : ¬c.argCount = 0)
    (hl : s.linkRefusal c = none) (act : State → State) : s.onArgument c act = act s := by
  have ht := State.onFrame_taken h.2.1 h.1 act
  rw [if_neg hc] at ht
  exact ht.trans (State.takeCommand_executed h.2.2 hl act)

/-- The checks of R174 pass every command while the device is READY with no CLEAR-TABLE in progress. -/
theorem State.linkRefusal_executes {s : State} (h : s.executes) (c : LinkCommand) : s.linkRefusal c = none := by
  simp [State.linkRefusal, h.1, h.2]

theorem State.linkRefusal_status (s : State) : s.linkRefusal .status = none := by
  simp [State.linkRefusal]

theorem State.linkRefusal_counts {s : State} (h : s.condition = .ready) : s.linkRefusal .counts = none := by
  simp [State.linkRefusal, h]

/-! ### The event of a PURGE and of a CLEAR-TABLE (R178, R179) -/

/-- The blocks of the link that an event of the Record Table finds and leaves: the frame, the pin and the PURGE owed. -/
def State.withLink (f : Frame) (sdo : Option Byte) (owed : Option Slot) (s : State) : State :=
  { s with frame := f, sdo := sdo, purgeSlot := owed }

section
variable (f : Frame) (d : Option Byte) (o : Option Slot)

theorem State.place_withLink (p : Port) (r : Response) (s : State) :
    (s.withLink f d o).place p r = (s.place p r).withLink f d o := by
  unfold State.place
  by_cases h : (s.port p).mode = .draining
  · rw [if_pos h, if_pos (by exact h)]
  · rw [if_neg h, if_neg (by exact h)]
    rfl

theorem State.placeAll_withLink (rs : List (Port × Response)) (s : State) :
    (s.withLink f d o).placeAll rs = (s.placeAll rs).withLink f d o := by
  induction rs generalizing s with
  | nil => rfl
  | cons x rest ih => rw [State.placeAll, State.place_withLink, ih]; rfl

theorem State.withdrawLine_withLink (line : Option LineAssignment) (alert : Bool) (s : State) :
    (s.withLink f d o).withdrawLine line alert = (s.withdrawLine line alert).withLink f d o := by
  unfold State.withdrawLine
  split
  · rfl
  split <;> rfl

/-- The emptying of a slot and the link have nothing to do with each other. -/
theorem State.emptySlot_withLink (i : Slot) (r0 r1 : Record) (c : ResultCode) (s : State) :
    (s.withLink f d o).emptySlot i r0 r1 c = (s.emptySlot i r0 r1 c).withLink f d o := by
  have hn : ∀ (w : Vector WatchMode 4) (e : ChangedEntry) (u : State),
      (u.withLink f d o).notify w e = (u.notify w e).withLink f d o := fun _ _ _ => rfl
  have hw : ∀ (x : SlotState) (u : State), (u.withLink f d o).writeSlot i x = (u.writeSlot i x).withLink f d o :=
    fun _ _ => rfl
  have hs : ∀ u : State, (u.withLink f d o).slot i = u.slot i := fun _ => rfl
  simp only [State.emptySlot, State.placeAll_withLink, hn, State.withdrawLine_withLink, hw, hs]

end

/-- The frame of a command whose status is still to come once the status is delivered. -/
def Frame.delivered (st : LinkStatus) : Frame → Frame
  | .response none data pos => .response (some st) data pos
  | f => f

theorem State.deliver_eq (st : LinkStatus) (s : State) : s.deliver st = { s with frame := s.frame.delivered st } := by
  unfold State.deliver Frame.delivered
  cases hf : s.frame with
  | response status data pos => cases status <;> simp [← hf]
  | idle | command | argument => simp [← hf]

theorem Frame.delivered_of_ne {f : Frame} (h : ∀ (data : List Byte) (pos : Nat), f ≠ .response none data pos)
    (st : LinkStatus) : f.delivered st = f := by
  unfold Frame.delivered
  split
  · exact absurd rfl (h _ _)
  · rfl

theorem State.purgeSlotNow_empty {s : State} {i : Slot} (h : (s.slot i).record = none) :
    s.purgeSlotNow i = { s with frame := s.frame.delivered .range } := by
  simp only [State.purgeSlotNow, h, State.deliver_eq]

theorem State.purgeSlotNow_record {s : State} {i : Slot} {rec : Record} (h : (s.slot i).record = some rec) :
    s.purgeSlotNow i = { s.emptySlot i rec rec .purged with frame := s.frame.delivered .ok } := by
  simp only [State.purgeSlotNow, h, State.deliver_eq, State.emptySlot_frame]

/-- The event of a deferred PURGE on an EMPTY slot. -/
theorem State.settlePurge_empty {s : State} {j : Slot} (hp : s.purgeSlot = some j) (h : (s.slot j).record = none) :
    s.settlePurge = { s with purgeSlot := none, frame := s.frame.delivered .range } := by
  simp only [State.settlePurge, hp]
  rw [State.purgeSlotNow_empty (by exact h)]

/-- The event of a deferred PURGE on a slot with a record. -/
theorem State.settlePurge_record {s : State} {j : Slot} {rec : Record} (hp : s.purgeSlot = some j)
    (h : (s.slot j).record = some rec) : s.settlePurge =
      { s.emptySlot j rec rec .purged with purgeSlot := none, frame := s.frame.delivered .ok } := by
  simp only [State.settlePurge, hp]
  rw [State.purgeSlotNow_record (rec := rec) (by exact h)]
  have he := State.emptySlot_withLink s.frame s.sdo none j rec rec .purged s
  simp only [State.withLink] at he
  rw [he]
  simp

theorem State.settlePurge_purgeSlot (s : State) : s.settlePurge.purgeSlot = none := by
  cases hp : s.purgeSlot with
  | none => rw [State.settlePurge_none hp, hp]
  | some j =>
    cases hr : (s.slot j).record with
    | none => rw [State.settlePurge_empty hp hr]
    | some rec => rw [State.settlePurge_record hp hr]

theorem State.settlePurge_resetAsserted (s : State) : s.settlePurge.resetAsserted = s.resetAsserted := by
  cases hp : s.purgeSlot with
  | none => rw [State.settlePurge_none hp]
  | some j =>
    cases hr : (s.slot j).record with
    | none => rw [State.settlePurge_empty hp hr]
    | some rec => rw [State.settlePurge_record hp hr]; simp

/-- A frame that no status is owed to is as it was after the event of a PURGE. -/
theorem State.settlePurge_frame {s : State} (h : ∀ (data : List Byte) (pos : Nat), s.frame ≠ .response none data pos) :
    s.settlePurge.frame = s.frame := by
  cases hp : s.purgeSlot with
  | none => rw [State.settlePurge_none hp]
  | some j =>
    cases hr : (s.slot j).record with
    | none => rw [State.settlePurge_empty hp hr]; exact Frame.delivered_of_ne h _
    | some rec => rw [State.settlePurge_record hp hr]; exact Frame.delivered_of_ne h _

/-- The event that a command does first may as well come before it. -/
theorem State.takeCommand_settled (c : LinkCommand) (act : State → State) (s : State) :
    s.takeCommand c act = s.settlePurge.takeCommand c act := by
  rw [State.takeCommand, State.takeCommand, State.settlePurge_none s.settlePurge_purgeSlot]

theorem exec_linkCommand_settled {s : State} {c : LinkCommand} {b : Byte} {i : Instr} (hr : s.resetAsserted = false)
    (hi : i = LinkCommand.taken b c ∨ (c = .purge ∧ i = .purge (.deferred b)))
    (hf : s.frame = if c.argCount = 0 then .command else .argument c) : exec i s = exec i s.settlePurge := by
  obtain ⟨act, he⟩ := exec_linkCommand hi
  have hne : ∀ (data : List Byte) (pos : Nat), s.frame ≠ .response none data pos := fun data pos => by
    rw [hf]; split <;> nofun
  rw [he, he, State.onFrame_taken hr hf, State.onFrame_taken (by rw [State.settlePurge_resetAsserted, hr])
    (by rw [State.settlePurge_frame hne, hf]), ← State.takeCommand_settled]

theorem State.clearOne_cases (s : State) (i : Slot) : ((s.slot i).record = none ∧ s.clearOne i = s) ∨
    ∃ rec, (s.slot i).record = some rec ∧ s.clearOne i = s.emptySlot i rec rec .purged := by
  unfold State.clearOne
  cases h : (s.slot i).record with
  | none => exact .inl ⟨rfl, rfl⟩
  | some rec => exact .inr ⟨rec, rfl, rfl⟩

theorem State.clearOne_frame (s : State) (i : Slot) : (s.clearOne i).frame = s.frame := by
  rcases s.clearOne_cases i with ⟨-, h⟩ | ⟨rec, -, h⟩ <;> rw [h]
  simp

theorem exec_clearTableSlot {s : State} {i : Slot} (hr : s.resetAsserted = false) (hc : s.clear = some i) :
    exec .clearTableSlot s = .next ((s.clearOne i).advanceClear i) := by
  change Host.Outcome.next (match s.clear with | none => s | some i => _) = _
  rw [hc]
  exact congrArg Host.Outcome.next (State.outOfReset_released hr _)

/-! ### The bytes of a frame (R172, R173) -/

theorem exec_unknownCommand {s : State} {b : Byte} (hr : s.resetAsserted = false) (hf : s.frame = .command)
    (hb : LinkCommand.ofByte b = none) : exec (.unknownCommand b) s = .next (s.settlePurge.linkAnswer .range []) := by
  change Host.Outcome.next (if s.frame = .command then s.outOfReset (State.takeCommandByte b) else s) = _
  rw [if_pos hf, State.outOfReset_released hr, State.takeCommandByte, hb]
  rfl

theorem exec_commandByte {s : State} (hr : s.resetAsserted = false) (hf : s.frame = .command) (b : Byte) :
    exec (.commandByte b) s = .next (s.takeCommandByte b) := by
  change Host.Outcome.next (if s.frame = .command then s.outOfReset (State.takeCommandByte b) else s) = _
  rw [if_pos hf, State.outOfReset_released hr]

theorem State.takeCommandByte_argument {s : State} {b : Byte} {c : LinkCommand} (hb : LinkCommand.ofByte b = some c)
    (hc : c.argCount = 1) : s.takeCommandByte b = s.expectArgument c := by
  rw [State.takeCommandByte, hb]
  cases c <;> cases hc <;> rfl

/-- The byte of a command without an argument takes the command. -/
theorem exec_commandByte_taken {s : State} {b : Byte} {c : LinkCommand} (hr : s.resetAsserted = false)
    (hf : s.frame = .command) (hb : LinkCommand.ofByte b = some c) (hc : c.argCount = 0) :
    exec (.commandByte b) s = exec (LinkCommand.taken 0 c) s := by
  rw [exec_commandByte hr hf, State.takeCommandByte, hb]
  cases c with
  | status => exact congrArg Host.Outcome.next (State.onFrame_taken (c := .status) hr hf State.doStatus).symm
  | counts => exact congrArg Host.Outcome.next (State.onFrame_taken (c := .counts) hr hf State.doCounts).symm
  | clearTable => exact congrArg Host.Outcome.next (State.onFrame_taken (c := .clearTable) hr hf State.doClearTable).symm
  | readRecord | purge | fence | unfence | portReset | setWaitUnit | setMattnMask | clearMattn => cases hc

theorem exec_responsePhaseByte {s : State} (hr : s.resetAsserted = false) {status : Option LinkStatus} {data : List Byte}
    {pos : Nat} (hf : s.frame = .response status data pos) (b : Byte) : exec (.responsePhaseByte b) s = .next
      { s with frame := .response status data (nextPosition status data pos), sdo := some (responseByte status data pos) } := by
  change Host.Outcome.next (s.outOfReset State.clockResponse) = _
  rw [State.outOfReset_released hr, State.clockResponse, hf]

/-! ### The commands on ports, the clock and MATTN (R76, R181 to R183) -/

theorem portOfByte_eq_none {b : Byte} (h : 4 ≤ b.toNat) : portOfByte b = none := dif_neg (by omega)

theorem portOfByte_eq_some {b : Byte} {p : Port} (h : b.toNat = p.val) : portOfByte b = some p := by
  rw [portOfByte, dif_pos (by omega)]
  exact congrArg some (Fin.ext h)

theorem State.onPort_range {s : State} {b : Byte} (h : 4 ≤ b.toNat) (act : Port → State → State) :
    s.onPort b act = s.linkAnswer .range [] := by
  rw [State.onPort, portOfByte_eq_none h]
  rfl

theorem State.onPort_port {s : State} {b : Byte} {p : Port} (h : b.toNat = p.val) (act : Port → State → State) :
    s.onPort b act = act p s := by
  rw [State.onPort, portOfByte_eq_some h]

theorem State.waiterExists_iff (s : State) : s.waiterExists = true ↔ ∃ i : Slot, (s.slot i).waiters ≠ [] := by
  simp only [State.waiterExists, List.any_eq_true, Vector.mem_toList_iff, Vector.mem_iff_getElem, Bool.not_eq_true',
    List.isEmpty_eq_false_iff]
  constructor
  · rintro ⟨x, ⟨n, hn, rfl⟩, hx⟩
    exact ⟨⟨n, hn⟩, hx⟩
  · rintro ⟨i, hi⟩
    exact ⟨_, ⟨i.val, i.isLt, rfl⟩, hi⟩

theorem WaitUnit.ofCode_eq_none {n : Nat} (h : 3 ≤ n) : WaitUnit.ofCode n = none := by
  match n with
  | n + 3 => rfl

theorem WaitUnit.exists_ofCode {n : Nat} (h : n ≤ 2) : ∃ u, WaitUnit.ofCode n = some u := by
  match n with
  | 0 | 1 | 2 => exact ⟨_, rfl⟩

section
variable {s : State}

theorem exec_fence (h : s.awaits .fence) (he : s.executes) (b : Byte) :
    exec (.fence b) s = .next (s.onPort b State.doFence) :=
  congrArg Host.Outcome.next (State.onArgument_executed h (by decide) (State.linkRefusal_executes he _) _)

theorem exec_unfence (h : s.awaits .unfence) (he : s.executes) (b : Byte) :
    exec (.unfence b) s = .next (s.onPort b State.doUnfence) :=
  congrArg Host.Outcome.next (State.onArgument_executed h (by decide) (State.linkRefusal_executes he _) _)

theorem exec_portReset (h : s.awaits .portReset) (he : s.executes) (b : Byte) :
    exec (.portReset b) s = .next (s.onPort b State.doPortReset) :=
  congrArg Host.Outcome.next (State.onArgument_executed h (by decide) (State.linkRefusal_executes he _) _)

theorem exec_setWaitUnit (h : s.awaits .setWaitUnit) (he : s.executes) (b : Byte) :
    exec (.setWaitUnit b) s = .next (s.doSetWaitUnit b) :=
  congrArg Host.Outcome.next (State.onArgument_executed h (by decide) (State.linkRefusal_executes he _) _)

end

end Sys2Proof.Machine

namespace Sys2Proof.Proofs

open Sys2Proof.Machine

/-- Settles O40: the port reset by the port's mode, and the three that bring it. -/
theorem portResetByMode : Obligations.PortResetByMode := by
  intro s p hr cleared
  have he : exec (.prstAssertion p) s = .next (s.portReset p) :=
    congrArg Host.Outcome.next (State.outOfReset_released hr _)
  refine ⟨fun h => ?_, fun h => ?_, fun h => ?_, fun r rest h => ?_, fun b ha hex hb => ?_⟩
  · rw [he, State.portReset_draining h]
  · rw [he, State.portReset_offline h]
    rfl
  · rw [he, State.portReset_taken h]
  · refine congrArg Host.Outcome.next ((State.onTurn_atTurn h _).trans ?_)
    exact State.portReset_taken (.inl (by simp [State.atTurn_online h]))
  · rw [exec_portReset ha hex, State.onPort_port hb, State.doPortReset]
    refine ⟨fun h => ?_, fun h => ?_, fun h => ?_⟩
    · rw [if_pos h]
      rfl
    · rw [if_neg (by simp [h]), State.portReset_offline h]
      rfl
    · rw [if_neg (by rcases h with h | h <;> simp [h]), State.portReset_taken h]
      rfl

/-- Settles O43: the phases of a frame. -/
theorem framesFollowTheirPhases : Obligations.FramesFollowTheirPhases := by
  refine ⟨fun s => ⟨fun hc hr => ?_, fun hc hr => ?_, fun hc => ?_, rfl⟩, fun s b hr => ⟨fun hf => ⟨fun hb hp => ?_,
    fun c hb => ⟨fun hc => ?_, fun hc => exec_commandByte_taken hr hf hb hc⟩⟩, fun data pos => ⟨fun hf => ?_,
    fun st hf => ⟨fun hpos => ?_, fun hpos => ?_⟩⟩⟩⟩
  · change Host.Outcome.next s.openFrame = _
    rw [State.openFrame, if_neg (by simp [hc]), if_neg (by simp [hr])]
  · change Host.Outcome.next s.openFrame = _
    rw [State.openFrame, if_neg (by simp [hc]), if_pos hr]
  · change Host.Outcome.next s.openFrame = _
    rw [State.openFrame, if_pos hc]
  · have hu := exec_unknownCommand hr hf hb
    rw [State.settlePurge_none hp] at hu
    exact ⟨hu, hu⟩
  · rw [exec_commandByte hr hf, State.takeCommandByte_argument hb hc]
    rfl
  · rw [exec_responsePhaseByte hr hf]
    have hn : nextPosition none data pos = pos := by simp [nextPosition]
    rw [hn, ← hf]
    rfl
  · rw [exec_responsePhaseByte hr hf, nextPosition, if_pos ⟨rfl, hpos⟩, responseByte]
    simp only [List.getD_eq_getElem?_getD]
    rw [List.getElem?_eq_getElem (by simp; omega)]
    rfl
  · rw [exec_responsePhaseByte hr hf, nextPosition, if_neg (by omega), ← hf, responseByte]
    simp only [List.getD_eq_getElem?_getD]
    rw [List.getElem?_eq_none (by simp; omega)]
    rfl

/-- Settles O44: the three checks in the order of R174. -/
theorem linkChecksBeforeACommand : Obligations.LinkChecksBeforeACommand := by
  intro s c b i ha hi
  obtain ⟨act, he⟩ := exec_linkCommand hi
  have hrefused : ∀ st, s.linkRefusal c = some st → exec i s = .next (s.linkAnswer st []) := fun st hl => by
    rw [he, State.onFrame_taken ha.2.1 ha.1, State.takeCommand_refused ha.2.2 hl]
  refine ⟨fun hc h1 => hrefused _ ?_, fun hc h1 h2 => hrefused _ ?_, fun hc hcl h1 h2 => hrefused _ ?_⟩
  · simp [State.linkRefusal, hc, h1]
  · simp [State.linkRefusal, hc, h1, h2]
  · simp [State.linkRefusal, hc, h1, h2, Option.isSome_iff_ne_none.2 hcl]

/-- Settles O46: the event of a PURGE, at once, deferred or owed, and the slots of a CLEAR-TABLE one by one. -/
theorem purgeAndClearTableEmptySlots : Obligations.PurgeAndClearTableEmptySlots := by
  refine ⟨?_, fun s hr => ⟨fun ha hex => ?_, fun hc => ?_, fun i hc => ⟨s.clearOne i, s.clearOne_cases i, fun hi => ?_,
    fun hi => ⟨fun data pos hf => ?_, fun hf => ?_⟩⟩⟩⟩
  · intro s b i
    refine ⟨fun ha hex => ?_, ?_⟩
    · have hi : slotOfByte b = i := Fin.ext (Nat.mod_eq_of_lt b.isLt).symm
      have hrun : ∀ act : State → State, s.onArgument .purge act = act s := fun act =>
        State.onArgument_executed ha (by decide) (State.linkRefusal_executes hex _) act
      refine ⟨fun hrec => ?_, fun rec hrec => ?_, ?_⟩
      · refine congrArg Host.Outcome.next ((hrun _).trans ?_)
        rw [State.doPurge, hi, State.purgeSlotNow_empty (by exact hrec)]
        rfl
      · refine congrArg Host.Outcome.next ((hrun _).trans ?_)
        have hlater : s.respondLater = s.withLink (.response none [] 0) (some idleByte)
            (s.emptySlot i rec rec .purged).purgeSlot := by
          rw [State.emptySlot_purgeSlot]
          rfl
        rw [State.doPurge, hi, State.purgeSlotNow_record (rec := rec) (by exact hrec), hlater, State.emptySlot_withLink]
        rfl
      · refine congrArg Host.Outcome.next ((hrun _).trans ?_)
        rw [State.deferPurge, hi]
        rfl
    · intro j hr hp status t
      have ht : s.settlePurge = t := by
        cases hrec : (s.slot j).record with
        | none =>
          rw [State.settlePurge_empty hp hrec]
          simp only [t, hrec]
          rfl
        | some rec =>
          rw [State.settlePurge_record hp hrec]
          simp only [t, hrec]
          rfl
      rw [← ht]
      refine ⟨congrArg Host.Outcome.next (State.outOfReset_released hr _), fun hf hb => ?_,
        fun hf => exec_linkCommand_settled (c := .purge) hr (.inr ⟨rfl, rfl⟩) hf,
        fun c hf => exec_linkCommand_settled hr (.inl rfl) hf⟩
      rw [exec_unknownCommand hr hf hb, exec_unknownCommand (by rw [State.settlePurge_resetAsserted, hr])
        (by rw [State.settlePurge_frame (by rw [hf]; nofun), hf]) hb, State.settlePurge_none s.settlePurge_purgeSlot]
  · refine congrArg Host.Outcome.next ?_
    exact State.onCommand_executed ha (by decide) (State.linkRefusal_executes hex _) _
  · change Host.Outcome.next (match s.clear with | none => s | some i => _) = _
    rw [hc]
  · rw [exec_clearTableSlot hr hc, State.advanceClear, if_neg (by omega)]
  · rw [exec_clearTableSlot hr hc, State.advanceClear, if_pos hi, State.deliver_eq, State.clearOne_frame, hf]
    rfl
  · rw [exec_clearTableSlot hr hc, State.advanceClear, if_pos hi, State.deliver_eq,
      Frame.delivered_of_ne (by rw [State.clearOne_frame]; exact hf)]

/-- Settles O47: each command where the first three checks pass it. -/
theorem portClockAndMattnCommands : Obligations.PortClockAndMattnCommands := by
  refine ⟨?_, fun s b => ⟨fun ha hex => ⟨fun hb => ?_, fun hb hw => ?_, fun hw u hu => ?_⟩, fun ha hex => ?_, fun ha hex => ?_⟩⟩
  · intro s b hex mode
    refine ⟨fun ha => ⟨fun hb => ?_, fun p hb => ⟨fun hm => ?_, fun hm => ?_⟩⟩,
      fun ha => ⟨fun hb => ?_, fun p hb => ⟨fun hm => ?_, fun hm => ?_⟩⟩, fun ha hb => ?_⟩
    · rw [exec_fence ha hex, State.onPort_range hb]
    · rw [exec_fence ha hex, State.onPort_port hb, State.doFence, if_pos hm]
      rfl
    · rw [exec_fence ha hex, State.onPort_port hb, State.doFence, if_neg hm]
      rfl
    · rw [exec_unfence ha hex, State.onPort_range hb]
    · rw [exec_unfence ha hex, State.onPort_port hb, State.doUnfence, if_pos hm]
      rfl
    · rw [exec_unfence ha hex, State.onPort_port hb, State.doUnfence, if_neg hm]
      rfl
    · rw [exec_portReset ha hex, State.onPort_range hb]
  · rw [exec_setWaitUnit ha hex, State.doSetWaitUnit, WaitUnit.ofCode_eq_none hb]
    rfl
  · obtain ⟨u, hu⟩ := WaitUnit.exists_ofCode hb
    rw [exec_setWaitUnit ha hex, State.doSetWaitUnit, hu]
    simp only [s.waiterExists_iff.2 hw, if_true]
    rfl
  · have hno : s.waiterExists = false := Bool.eq_false_iff.2 fun h => by
      obtain ⟨i, hi⟩ := s.waiterExists_iff.1 h
      exact hi (hw i)
    have hcode : WaitUnit.ofCode b.toNat = some u := by rw [hu]; cases u <;> rfl
    rw [exec_setWaitUnit ha hex, State.doSetWaitUnit, hcode]
    simp only [hno, Bool.false_eq_true, if_false]
    rfl
  · have hl : s.linkRefusal .setMattnMask = none := by
      rcases hex with hex | ⟨hc, hcl⟩
      · exact State.linkRefusal_executes hex _
      · simp [State.linkRefusal, hc, hcl]
    exact congrArg Host.Outcome.next (State.onArgument_executed ha (by decide) hl _)
  · exact congrArg Host.Outcome.next (State.onArgument_executed ha (by decide) (State.linkRefusal_executes hex _) _)

end Sys2Proof.Proofs
end

section
/-! The reading commands of the maintenance link (O45) and the formats of words and bytes (O49). -/

namespace Sys2Proof.Machine

/-! ### Bytes made of fields (10.7) -/

theorem statusByte_eq (mattn clear waiter holding slot : Bool) (x : Condition) :
    0#1 ++ BitVec.ofBool mattn ++ BitVec.ofBool clear ++ BitVec.ofBool waiter ++ BitVec.ofBool holding ++
      BitVec.ofBool slot ++ BitVec.ofNat 2 x.code =
    (if mattn then 0x40#8 else 0) ||| (if clear then 0x20#8 else 0) ||| (if waiter then 0x10#8 else 0) |||
      (if holding then 0x08#8 else 0) ||| (if slot then 0x04#8 else 0) |||
      (match x with | .checking => 0#8 | .ready => 1#8 | .failed => 2#8) := by
  cases x <;> revert mattn clear waiter holding slot <;> decide

/-- Four codes of two bits each as a byte. -/
theorem fourCodes_eq {a b c : Nat} (d : Nat) (ha : a < 4) (hb : b < 4) (hc : c < 4) :
    BitVec.ofNat 2 d ++ BitVec.ofNat 2 c ++ BitVec.ofNat 2 b ++ BitVec.ofNat 2 a =
      BitVec.ofNat 8 (d * 64 + c * 16 + b * 4 + a) := by
  apply BitVec.eq_of_toNat_eq
  simp only [toNat_fields, BitVec.toNat_ofNat]
  omega

theorem PortMode.code_lt (m : PortMode) : m.code < 4 := by cases m <;> decide
theorem WatchMode.code_lt (m : WatchMode) : m.code < 4 := by cases m <;> decide

theorem lineByte_eq (line : Option LineAssignment) : lineByte line = match line with
    | none => 0xFF
    | some a => BitVec.ofNat 8 (a.line.val + if a.sense = .inverted then 16 else 0) := by
  cases line with
  | none => rfl
  | some a =>
    obtain ⟨x, sense⟩ := a
    cases sense <;> revert x <;> decide

theorem heldBytes_eq (held : HeldRetire) : heldBytes held = match held with
    | .absent => [0, 0]
    | .pending q g => [1, BitVec.ofNat 8 (q.val * 16 + g.toNat)]
    | .discarded => [2, 0] := by
  cases held with
  | pending q g => exact congrArg (fun x : Byte => [1, x]) (portTagByte_eq q g)
  | absent | discarded => rfl

theorem length_heldBytes (held : HeldRetire) : (heldBytes held).length = 2 := by cases held <;> rfl

theorem counterFlags_eq (limit : Bool) (policy : Policy) : 0#6 ++ BitVec.ofBool limit ++ BitVec.ofBool (policy == .clip) =
    BitVec.ofNat 8 ((if policy = .clip then 1 else 0) + if limit then 2 else 0) := by
  cases policy <;> cases limit <;> decide

theorem Holding.bytes_eq (h : Holding) :
    h.bytes = portByte (some h.port) :: [BitVec.ofNat 8 (h.units / 256), BitVec.ofNat 8 h.units] := by
  rw [Holding.bytes, twoBytes_natWord]
  rfl

theorem Waiter.bytes_eq (w : Waiter) : w.bytes =
    [BitVec.ofNat 8 (w.port.val * 16 + w.tag.toNat)] ++ [BitVec.ofNat 8 (w.units / 256), BitVec.ofNat 8 w.units] ++
      (match w.timeout with
        | some left => [BitVec.ofNat 8 (left / 256), BitVec.ofNat 8 left]
        | none => [0xFF, 0xFF]) ++ [if w.reserved then 1 else 0] := by
  rw [Waiter.bytes, portTagByte_eq, twoBytes_natWord]
  cases w.timeout with
  | none => rfl
  | some left =>
    simp only [Option.elim_some, twoBytes_natWord]
    rfl

/-! ### The image of a slot (10.7, R177) -/

/-- A list of equal parts is as long as they are together. -/
theorem length_flatMap_const {α β : Type} {f : α → List β} {k : Nat} (h : ∀ x, (f x).length = k) (l : List α) :
    (l.flatMap f).length = k * l.length := by
  induction l with
  | nil => rfl
  | cons x xs ih => rw [List.flatMap_cons, List.length_append, h, ih, List.length_cons, Nat.mul_succ, Nat.add_comm]

theorem SlotState.image_record {x : SlotState} {rec : Record} (hx : x.record = some rec) : x.image =
    [if rec.state = .live then 1 else 2, x.gen] ++ [BitVec.ofNat 8 (rec.key.toNat / 256), BitVec.ofNat 8 rec.key.toNat] ++
      [BitVec.ofNat 8 rec.kind.code, portByte rec.owner, lineByte rec.line,
        BitVec.ofNat 8 (rec.watch[0].code + 4 * rec.watch[1].code + 16 * rec.watch[2].code + 64 * rec.watch[3].code)] ++
      heldBytes rec.held ++ rec.body.imageBytes := by
  have hwatch : watchByte rec.watch = BitVec.ofNat 8
      (rec.watch[0].code + 4 * rec.watch[1].code + 16 * rec.watch[2].code + 64 * rec.watch[3].code) := by
    rw [watchByte, fourCodes_eq _ (WatchMode.code_lt _) (WatchMode.code_lt _) (WatchMode.code_lt _)]
    congr 1
    omega
  rw [SlotState.image, hx]
  dsimp only
  rw [twoBytes_eq, hwatch]

theorem SlotState.length_image {x : SlotState} {rec : Record} (hx : x.record = some rec) :
    x.image.length = 10 + rec.body.imageBytes.length := by
  simp only [SlotState.image_record hx, List.length_append, length_heldBytes, List.length_cons, List.length_nil]

theorem length_imageBytes_pool (b : Pool) :
    (Body.pool b).imageBytes.length = 8 + 3 * b.holdings.length + 6 * b.waiters.length := by
  have hw : ∀ w : Waiter, w.bytes.length = 6 := fun w => by rw [Waiter.bytes_eq]; cases w.timeout <;> rfl
  have hh : ∀ h : Holding, h.bytes.length = 3 := fun h => by rw [Holding.bytes_eq]; rfl
  simp only [Body.imageBytes, List.length_append, length_flatMap_const hh, length_flatMap_const hw, twoBytes, List.length_cons, List.length_nil]
  omega

/-! ### The reading commands at their place (R175 to R177) -/

theorem exec_status {s : State} (h : s.awaits .status) : exec .status s = .next (s.linkAnswer .ok s.statusBytes) :=
  congrArg Host.Outcome.next (State.onCommand_executed h (by decide) s.linkRefusal_status _)

theorem exec_counts {s : State} (h : s.awaits .counts) (hc : s.condition = .ready) :
    exec .counts s = .next (s.linkAnswer .ok s.countsBytes) :=
  congrArg Host.Outcome.next (State.onCommand_executed h (by decide) (State.linkRefusal_counts hc) _)

theorem exec_readRecord {s : State} (h : s.awaits .readRecord) (hex : s.executes) (b : Byte) :
    exec (.readRecord b) s = .next (s.linkAnswer .ok (s.slot (Fin.ofNat 256 b.toNat)).recordBytes) := by
  have hb : slotOfByte b = Fin.ofNat 256 b.toNat := Fin.ext (Nat.mod_eq_of_lt b.isLt).symm
  rw [← hb]
  exact congrArg Host.Outcome.next (State.onArgument_executed h (by decide) (State.linkRefusal_executes hex _) _)

theorem SlotState.recordBytes_empty {x : SlotState} (hx : x.record = none) : x.recordBytes = [2, 0, x.gen] := by
  rw [SlotState.recordBytes, SlotState.image, hx]
  rfl

/-- READ-RECORD of a record: the length byte, the header bytes and those of the body. -/
theorem SlotState.recordBytes_record {x : SlotState} {rec : Record} (hx : x.record = some rec) {n : Nat}
    (hn : n = 10 + rec.body.imageBytes.length) : x.recordBytes =
    [BitVec.ofNat 8 n, if rec.state = .live then 1 else 2, x.gen] ++
      [BitVec.ofNat 8 (rec.key.toNat / 256), BitVec.ofNat 8 rec.key.toNat] ++
      [BitVec.ofNat 8 rec.kind.code, portByte rec.owner, lineByte rec.line,
        BitVec.ofNat 8 (rec.watch[0].code + 4 * rec.watch[1].code + 16 * rec.watch[2].code + 64 * rec.watch[3].code)] ++
      heldBytes rec.held ++ rec.body.imageBytes := by
  rw [SlotState.recordBytes, SlotState.length_image hx, ← hn, SlotState.image_record hx]
  rfl

/-! ### Header words and handle words (10.2, 10.3) -/

theorem ReqCode.code_lt (c : ReqCode) : c.code < 64 := by cases c <;> decide

theorem toNat_headerWord (c : ReqCode) (tag : Tag) : (headerWord c tag).toNat = c.code * 1024 + tag.toNat * 64 := by
  simp only [headerWord, toNat_fields, BitVec.toNat_ofNat, Nat.mod_eq_of_lt (show c.code < 2 ^ 6 from ReqCode.code_lt c)]
  omega

theorem headerCode_headerWord (c : ReqCode) (tag : Tag) : headerCode (headerWord c tag) = some c := by
  have := tag.isLt
  rw [headerCode_eq_some, toNat_headerWord]
  omega

theorem headerTag_headerWord (c : ReqCode) (tag : Tag) : headerTag (headerWord c tag) = tag := by
  have := tag.isLt
  apply BitVec.eq_of_toNat_eq
  rw [headerTag_toNat, toNat_headerWord]
  omega

theorem headerLowZero_headerWord (c : ReqCode) (tag : Tag) : headerLowZero (headerWord c tag) = true := by
  rw [headerLowZero_iff, toNat_headerWord]
  omega

theorem toNat_handleWord (i : Slot) (g : Gen) : (handleWord i g).toNat = i.val * 256 + g.toNat := by
  simp only [handleWord, toNat_fields]
  rfl

theorem handleSlot_handleWord (i : Slot) (g : Gen) : handleSlot (handleWord i g) = i := by
  have hi := i.isLt
  have hg := g.isLt
  refine Fin.ext ?_
  change ((handleWord i g).extractLsb' 8 8).toNat = i.val
  rw [BitVec.extractLsb'_toNat, Nat.shiftRight_eq_div_pow, toNat_handleWord]
  omega

theorem handleGen_handleWord (i : Slot) (g : Gen) : handleGen (handleWord i g) = g := by
  have hg := g.isLt
  apply BitVec.eq_of_toNat_eq
  rw [handleGen, BitVec.extractLsb'_toNat, toNat_handleWord]
  omega

theorem ResultCode.code_lt (c : ResultCode) : c.code < 64 := by cases c <;> decide

theorem toNat_responseHeader (valid : Bool) (tag : Tag) (result : ResultCode) {n : Nat} (h : n ≤ 9) :
    (responseHeader valid tag result n).toNat =
      (if valid then 32768 else 0) + tag.toNat * 2048 + result.code * 32 + n := by
  have hvalid : valid.toNat * 32768 = if valid then 32768 else 0 := by cases valid <;> rfl
  simp only [responseHeader, toNat_fields, BitVec.toNat_ofBool, BitVec.toNat_ofNat,
    Nat.mod_eq_of_lt (show result.code < 2 ^ 6 from result.code_lt)]
  rw [← hvalid]
  omega

theorem LinkCommand.ofByte_eq_none (b : Byte) : LinkCommand.ofByte b = none ↔
    b.toNat ∉ [0x01, 0x02, 0x03, 0x10, 0x11, 0x20, 0x21, 0x22, 0x30, 0x31, 0x32] := by
  unfold LinkCommand.ofByte
  split <;> simp_all

/-! ### The status word (10.6) -/

theorem refusalCode_lt (x : Option RefusalReason) : refusalCode x < 8 := by
  cases x with
  | none => decide
  | some x => cases x <;> decide

theorem PortState.statusWord_eq (q : PortState) : q.statusWord = BitVec.ofNat 16
    (q.portCode * 256 + (if q.refusalFlag then 128 else 0) + refusalCode q.refusalReason * 16 + q.refusedTag.toNat) := by
  have hflag : q.refusalFlag.toNat * 128 = if q.refusalFlag then 128 else 0 := by cases q.refusalFlag <;> rfl
  have hreason := refusalCode_lt q.refusalReason
  have htag := q.refusedTag.isLt
  have hbit : q.refusalFlag.toNat ≤ 1 := Bool.toNat_le _
  apply BitVec.eq_of_toNat_eq
  simp only [PortState.statusWord, PortState.refusalByte, toNat_fields, BitVec.toNat_ofBool, BitVec.toNat_ofNat]
  rw [← hflag]
  omega

theorem PortState.controlWord_eq (q : PortState) : q.controlWord =
    BitVec.ofNat 16 ((if q.responseEnable then 1 else 0) + if q.noticeEnable then 2 else 0) := by
  unfold PortState.controlWord
  cases q.responseEnable <;> cases q.noticeEnable <;> rfl

theorem PortState.queueNumber_eq (q : PortState) : q.queueNumber =
    if q.responses = [] then 9 * q.outstanding.length + q.intake.length
    else 9 * q.intake.length + q.outstanding.length := by
  simp [PortState.queueNumber]

theorem PortState.queueNumber_le {q : PortState} (ho : q.outstanding.length ≤ 8)
    (hi : q.intake.length ≤ q.outstanding.length) : q.queueNumber ≤ 80 := by
  rw [PortState.queueNumber_eq]
  split <;> omega

end Sys2Proof.Machine

namespace Sys2Proof.Proofs

open Sys2Proof.Machine

/-- Settles O45: the bytes of each answer, field by field. -/
theorem readingCommandsChangeNothing : Obligations.ReadingCommandsChangeNothing := by
  unfold Obligations.ReadingCommandsChangeNothing
  intro two signed portByte' mode state records s b
  have htwo : ∀ n : Nat, twoBytes (natWord n) = two n := twoBytes_natWord
  have hsigned : ∀ v : Int, twoBytes (intWord v) = signed v := twoBytes_intWord
  have hword : ∀ w : Word, twoBytes w = two w.toNat := twoBytes_eq
  refine ⟨fun ha => ?_, fun ha hc => ?_, fun ha hex => ?_⟩
  · rw [exec_status ha, State.statusBytes, statusByte_eq,
      fourCodes_eq _ (PortMode.code_lt _) (PortMode.code_lt _) (PortMode.code_lt _)]
    rfl
  · have hunit : BitVec.ofNat 8 s.waitUnit.code = match s.waitUnit with | .us100 => 0 | .ms1 => 1 | .ms10 => 2 := by
      cases s.waitUnit <;> rfl
    rw [exec_counts ha hc, State.countsBytes, htwo, htwo, htwo, hunit, recordCount_eq, recordCount_eq]
    rfl
  · intro x answers
    have he := exec_readRecord ha hex b
    refine ⟨fun hx => he.trans (by rw [SlotState.recordBytes_empty hx]), ?_⟩
    intro rec hx image
    refine ⟨fun a hb => ?_, fun a hb => ?_, fun a hb => ?_, fun a hb => ?_⟩
    · have hholding : Holding.bytes = fun h => portByte (some h.port) :: two h.units := funext Holding.bytes_eq
      have hwaiter : Waiter.bytes = _ := funext Waiter.bytes_eq
      refine he.trans ?_
      rw [SlotState.recordBytes_record hx (n := 18 + 3 * a.holdings.length + 6 * a.waiters.length)
        (by rw [hb, length_imageBytes_pool]; omega), Record.kind_of_body hb, hb, lineByte_eq, heldBytes_eq, Body.imageBytes]
      rw [htwo, htwo, htwo, hholding, hwaiter]
      rfl
    · refine he.trans ?_
      rw [SlotState.recordBytes_record hx (n := 21) (by rw [hb]; rfl), Record.kind_of_body hb, hb, lineByte_eq, heldBytes_eq,
        Body.imageBytes]
      rw [hsigned, hsigned, hsigned, hsigned, hsigned, counterFlags_eq]
      rfl
    · refine he.trans ?_
      rw [SlotState.recordBytes_record hx (n := 30) (by rw [hb]; simp [Body.imageBytes, twoBytes]), Record.kind_of_body hb, hb,
        lineByte_eq, heldBytes_eq, Body.imageBytes]
      rw [hword, hword]
      rfl
    · refine he.trans ?_
      rw [SlotState.recordBytes_record hx (n := 17) (by rw [hb]; rfl), Record.kind_of_body hb, hb, lineByte_eq, heldBytes_eq,
        Body.imageBytes]
      rw [hword, htwo, htwo]
      rfl

/-- Settles O49: the fields of each word in their places. -/
theorem wordsReadBackAsWritten : Obligations.WordsReadBackAsWritten := by
  refine ⟨⟨fun c tag => ⟨headerCode_headerWord c tag, headerTag_headerWord c tag, headerLowZero_headerWord c tag,
    toNat_headerWord c tag⟩, fun i g => ⟨handleSlot_handleWord i g, handleGen_handleWord i g, toNat_handleWord i g⟩,
    fun c => by cases c <;> rfl, by decide, fun _ => rfl, fun _ => rfl, fun r n w h => ?_⟩,
    ⟨by decide, by decide, by decide, by decide, LinkCommand.ofByte_eq_none, by decide,
      fun valid tag result n hn => toNat_responseHeader valid tag result hn⟩, fun q => ⟨rfl, rfl, ?_, ?_, q.controlWord_eq, rfl,
      rfl, rfl, q.queueNumber_eq⟩, fun c => rfl, fun q ho hi hr => ⟨PortState.decode_queueNumber ho hi hr,
      PortState.queueNumber_le ho hi, fun hm => ?_, fun hm => ?_⟩, fun q hm => ?_, fun q hm => ?_, by decide, by decide⟩
  · rw [Request.word, List.getD_eq_getElem?_getD, h]
    rfl
  · change q.responseWord = _
    unfold PortState.responseWord
    cases q.responses with
    | nil => rfl
    | cons r rest => rfl
  · refine (PortState.statusWord_eq q).trans ?_
    unfold refusalCode
    cases q.refusalReason with
    | none => rfl
    | some x => cases x <;> rfl
  · rw [PortState.portCode, hm]
  · rw [PortState.portCode, hm]
  · rw [PortState.portCode, hm]
  · rw [PortState.portCode, hm]

end Sys2Proof.Proofs
end

section
/-! The entry of a port into DRAINING, block by block (O41), and the walk step (O42). -/

namespace Sys2Proof.Machine

/-! ### One event of the entry (R82) -/

/-- The responses that the entry of port `p` places for the record of a slot. -/
def State.leaving (p : Port) (s : State) (i : Slot) : List (Port × Response) :=
  (((s.slot i).record.map fun rec => (rec.body.leftBy p).2).getD [])

theorem State.leaving_congr {p : Port} {s t : State} {i : Slot} (h : t.slot i = s.slot i) : t.leaving p i = s.leaving p i := by
  rw [State.leaving, h, State.leaving]

theorem State.dropWaitersAt_empty {p : Port} {s : State} {i : Slot} (h : (s.slot i).record = none) :
    s.dropWaitersAt p i = s := by rw [State.dropWaitersAt, h]

/-- The entry's event on a record leaves it, or is an event that removes no commitment and so ends with its change report. -/
theorem State.dropWaitersAt_record {p : Port} {s : State} {i : Slot} {rec : Record} (h : (s.slot i).record = some rec) :
    (rec.body.leftBy p = (rec.body, []) ∧ s.dropWaitersAt p i = s) ∨
      s.dropWaitersAt p i = (s.placeAll (rec.body.leftBy p).2).updateRecord i rec { rec with body := (rec.body.leftBy p).1 } := by
  rcases State.dropWaitersAt_cases p s i with he | ⟨rec', b, hs, hb, hw, he⟩
  · rcases Body.leftBy_cases p rec.body with hl | ⟨b, hb, hw, -⟩
    · exact .inl ⟨hl, he⟩
    · right
      simp only [State.dropWaitersAt, h, hb, hw, if_true, mergeResponses_none, Body.leftBy_waiting hw]
      rw [State.finishEvent, drains_leftBy hb]
      rfl
  · obtain rfl : rec' = rec := Option.some.inj (hs.symm.trans h)
    right
    rw [he, hb, Body.leftBy_waiting hw, State.finishEvent, drains_leftBy hb]
    rfl

theorem State.port_dropWaitersAt (p q : Port) (s : State) (i : Slot) :
    (s.dropWaitersAt p i).port q = (s.placeAll (s.leaving p i)).port q := by
  cases hr : (s.slot i).record with
  | none => rw [State.dropWaitersAt_empty hr, State.leaving, hr]; rfl
  | some rec =>
    have hl : s.leaving p i = (rec.body.leftBy p).2 := by rw [State.leaving, hr]; rfl
    rcases State.dropWaitersAt_record (p := p) hr with ⟨hb, he⟩ | he
    · rw [he, hl, hb]; rfl
    · rw [he, hl, State.port, State.updateRecord_ports]; rfl

/-- The responses that a port gets from the entry's events on some slots (R12, R82). -/
theorem State.port_foldl_dropWaitersAt (p q : Port) (l : List Slot) (hl : l.Nodup) (s : State) :
    (l.foldl (State.dropWaitersAt p) s).port q = if (s.port q).mode = .draining then s.port q else
      { s.port q with responses := (s.port q).responses ++ responsesFor q (l.flatMap (s.leaving p)) } := by
  induction l generalizing s with
  | nil => simp
  | cons i l ih =>
    obtain ⟨hi, hl⟩ := List.nodup_cons.1 hl
    have hsame : l.flatMap ((s.dropWaitersAt p i).leaving p) = l.flatMap (s.leaving p) :=
      List.flatMap_congr fun j hj => State.leaving_congr (by
        rw [State.slot_dropWaitersAt, if_neg (fun h : i = j => hi (h ▸ hj))])
    rw [List.foldl_cons, ih hl, hsame, State.port_dropWaitersAt, State.port_placeAll, List.flatMap_cons, responsesFor_append]
    by_cases hd : (s.port q).mode = .draining
    · simp [hd]
    · simp [hd]

/-! ### The changed sets (R116, R118) -/

theorem State.entryOf_updateRecord_body {s : State} {i : Slot} {rec : Record} (body : Body) (ho : s.changedSetsOrdered)
    (q : Port) : entryOf i (s.updateRecord i rec { rec with body := body }).changed[q.val] =
      if body.reported = rec.body.reported ∨ Reasons.keptBy ⟨true, !rec.body.inAlert && body.inAlert,
          rec.body.inAlert && !body.inAlert, false⟩ rec.watch[q.val] = Reasons.empty
      then entryOf i s.changed[q.val]
      else some ⟨i, (s.slot i).gen, (((entryOf i s.changed[q.val]).map (·.reasons)).getD Reasons.empty).union
        (Reasons.keptBy ⟨true, !rec.body.inAlert && body.inAlert, rec.body.inAlert && !body.inAlert, false⟩
          rec.watch[q.val])⟩ := by
  have hch := State.changed_updateRecord i rec { rec with body := body } s
  by_cases hb : body.reported = rec.body.reported
  · have hn : ¬(changeReasons rec { rec with body := body }).body = true := fun h =>
      (changeReasons_body.1 h).elim (fun h => h hb.symm) fun h => h rfl
    rw [if_neg hn] at hch
    rw [if_pos (.inl hb), hch]
  · have hc : (changeReasons rec { rec with body := body }).body = true := changeReasons_body.2 (.inl (Ne.symm hb))
    have hreasons : changeReasons rec { rec with body := body } =
        ⟨true, !rec.body.inAlert && body.inAlert, rec.body.inAlert && !body.inAlert, false⟩ := by
      rw [← hc]; rfl
    rw [if_pos hc, hreasons] at hch
    by_cases hk : Reasons.keptBy ⟨true, !rec.body.inAlert && body.inAlert, rec.body.inAlert && !body.inAlert, false⟩
        rec.watch[q.val] = Reasons.empty
    · rw [if_pos (.inr hk), set_notify_none hch hk]
    · rw [if_neg (not_or.2 ⟨hb, hk⟩)]
      exact entryOf_notify_self ho hch hk

theorem State.entryOf_updateRecord_ne {s : State} {i j : Slot} (r0 r1 : Record) (hj : j ≠ i) (q : Port) :
    entryOf j (s.updateRecord i r0 r1).changed[q.val] = entryOf j s.changed[q.val] := by
  have hch := State.changed_updateRecord i r0 r1 s
  split at hch
  · exact entryOf_notify_ne hch hj q
  · rw [hch]

/-- The entry of a slot in a port's changed set after the entry of port `p` into DRAINING. -/
def State.entryAfter (p q : Port) (s : State) (i : Slot) : Option ChangedEntry :=
  match (s.slot i).record with
  | none => entryOf i s.changed[q.val]
  | some rec =>
    let body := (rec.body.leftBy p).1
    let kept := Reasons.keptBy ⟨true, !rec.body.inAlert && body.inAlert, rec.body.inAlert && !body.inAlert, false⟩
      rec.watch[q.val]
    if body.reported = rec.body.reported ∨ kept = Reasons.empty then entryOf i s.changed[q.val]
    else some ⟨i, (s.slot i).gen, (((entryOf i s.changed[q.val]).map (·.reasons)).getD Reasons.empty).union kept⟩

theorem State.entryOf_dropWaitersAt (p q : Port) {s : State} (ho : s.changedSetsOrdered) (i j : Slot) :
    entryOf j (s.dropWaitersAt p i).changed[q.val] = if i = j then s.entryAfter p q j else entryOf j s.changed[q.val] := by
  cases hr : (s.slot i).record with
  | none =>
    rw [State.dropWaitersAt_empty hr]
    split
    next h => subst h; rw [State.entryAfter, hr]
    · rfl
  | some rec =>
    rcases State.dropWaitersAt_record (p := p) hr with ⟨hb, he⟩ | he
    · rw [he]
      split
      next h =>
        subst h
        simp only [State.entryAfter, hr, hb]
        exact (if_pos (.inl trivial)).symm
      · rfl
    · have hch : (s.placeAll (rec.body.leftBy p).2).changed = s.changed := by simp
      rw [he]
      split
      next h =>
        subst h
        rw [State.entryOf_updateRecord_body _ (State.changedSetsOrdered_congr hch ho)]
        simp only [State.entryAfter, hr, hch, State.placeAll_slot]
      next h => rw [State.entryOf_updateRecord_ne _ _ (Ne.symm h)]; simp only [hch]

theorem State.changedSetsOrdered_dropWaitersAt (p : Port) {s : State} (ho : s.changedSetsOrdered) (i : Slot) :
    (s.dropWaitersAt p i).changedSetsOrdered := by
  rcases State.dropWaitersAt_cases p s i with he | ⟨_, _, _, _, _, he⟩
  · rwa [he]
  · rw [he]; exact State.changedSetsOrdered_finishEvent ho

theorem State.entryOf_foldl_dropWaitersAt (p q : Port) (l : List Slot) (hl : l.Nodup) {s : State} (ho : s.changedSetsOrdered)
    (j : Slot) : entryOf j (l.foldl (State.dropWaitersAt p) s).changed[q.val] =
      if j ∈ l then s.entryAfter p q j else entryOf j s.changed[q.val] := by
  induction l generalizing s with
  | nil => rfl
  | cons i l ih =>
    obtain ⟨hi, hl⟩ := List.nodup_cons.1 hl
    rw [List.foldl_cons, ih hl (State.changedSetsOrdered_dropWaitersAt p ho i)]
    by_cases hij : i = j
    · subst hij
      rw [if_neg hi, State.entryOf_dropWaitersAt p q ho, if_pos rfl, if_pos List.mem_cons_self]
    · have hslot : (s.dropWaitersAt p i).slot j = s.slot j := by rw [State.slot_dropWaitersAt, if_neg hij]
      have hentry := State.entryOf_dropWaitersAt p q ho i j
      rw [if_neg hij] at hentry
      have hafter : (s.dropWaitersAt p i).entryAfter p q j = s.entryAfter p q j := by
        simp only [State.entryAfter, hslot, hentry]
      have hmem : j ∈ i :: l ↔ j ∈ l := by simp [Ne.symm hij]
      simp only [hafter, hentry, hmem]

/-! ### The entries freed (R43, R62) -/

theorem State.waiterTotal_dropWaiters (p : Port) (s : State) : (s.dropWaiters p).waiterTotal = s.waiterTotal :=
  State.dropWaiters_induction (P := fun u => u.waiterTotal = s.waiterTotal) (fun u i rec b hu hr hb _ => by
    refine (State.waiterTotal_finishEvent hr ?_).trans hu
    have h2 := (core_cascade (b.endWaiters (ofPort p))).length_le
    have h3 := congrArg List.length (core_endWaiters (ofPort p) b)
    have h4 := List.length_filter_le (fun w => !ofPort p w) b.waiters
    simp only [List.length_map] at h2 h3
    rw [hb]
    show (b.endWaiters (ofPort p)).cascade.1.waiters.length ≤ u.freeWaiters + b.waiters.length
    omega) rfl

theorem State.holdingTotal_dropWaiters (p : Port) {s : State} (h : s.everyRecord fun r => r.body.reservationLaw) :
    (s.dropWaiters p).holdingTotal = s.holdingTotal :=
  (State.dropWaiters_induction
    (P := fun u => (u.everyRecord fun r => r.body.reservationLaw) ∧ u.holdingTotal = s.holdingTotal)
    (fun u i rec b ⟨hlaw, hu⟩ hr hb _ => by
      have hk := Pool.keepsEntries_trans (Pool.keepsEntries_endWaiters (ofPort p) b) (Pool.keepsEntries_cascade _)
      obtain ⟨h2, h3⟩ := hk (hb ▸ hlaw i rec hr)
      refine ⟨State.everyRecord_finishEvent h2 hlaw, (State.holdingTotal_finishEvent hr ?_).trans hu⟩
      rw [hb]
      exact h3.trans (by show 0 + b.entriesUsed ≤ _ + b.entriesUsed; omega)) ⟨h, rfl⟩).2

theorem State.waiterTotal_map {f : SlotState → SlotState} {s t : State} (ht : t.slots = s.slots.map f)
    (hw : t.freeWaiters = s.freeWaiters) (hl : ∀ x, (f x).waiters.length = x.waiters.length) :
    t.waiterTotal = s.waiterTotal := by
  rw [State.waiterTotal, hw, ht, Vector.toList_map, List.map_map,
    show (fun x => x.waiters.length) ∘ f = fun x : SlotState => x.waiters.length from funext hl, State.waiterTotal]

theorem State.holdingTotal_map {f : SlotState → SlotState} {s t : State} (ht : t.slots = s.slots.map f)
    (hh : t.freeHoldings = s.freeHoldings) (hu : ∀ x, (f x).entriesUsed = x.entriesUsed) :
    t.holdingTotal = s.holdingTotal := by
  rw [State.holdingTotal, hh, ht, Vector.toList_map, List.map_map,
    show SlotState.entriesUsed ∘ f = SlotState.entriesUsed from funext hu, State.holdingTotal]

theorem State.waiterTotal_enterDraining (p : Port) (s : State) : (s.enterDraining p).waiterTotal = s.waiterTotal :=
  (State.waiterTotal_map (State.slots_enterDraining p s) (State.freeWaiters_enterDraining p s)
    (by rintro ⟨g, _ | r⟩ <;> rfl)).trans (State.waiterTotal_dropWaiters p _)

theorem State.holdingTotal_enterDraining (p : Port) {s : State} (h : s.everyRecord fun r => r.body.reservationLaw) :
    (s.enterDraining p).holdingTotal = s.holdingTotal :=
  (State.holdingTotal_map (State.slots_enterDraining p s) (State.freeHoldings_enterDraining p s)
    (by rintro ⟨g, _ | r⟩ <;> rfl)).trans (State.holdingTotal_dropWaiters p (s := s.modifyPort p (PortState.cleared .draining)) h)

/-! ### The bodies that the entry leaves (R82) -/

/-- Where no waiter of the port is left, nothing is granted to it. -/
theorem unitsAsked_eq_zero {p : Port} {ws : List Waiter} (h : ∀ w ∈ ws, w.port ≠ p) : unitsAsked p ws = 0 := by
  rw [unitsAsked, List.filter_eq_nil_iff.2 fun w hw => by simpa using h w hw]
  rfl

theorem port_ne_of_mem_endWaiters {b : Pool} {p : Port} : ∀ w ∈ (b.endWaiters (ofPort p)).waiters, w.port ≠ p := by
  intro w hw hp
  have hm := (exists_port_of_core (core_endWaiters (ofPort p) b) p).1 ⟨w, hw, hp⟩
  obtain ⟨v, hv, hvp⟩ := hm
  have := (List.mem_filter.1 hv).2
  simp [ofPort, hvp] at this

theorem Body.leftBy_pool (b : Pool) (p : Port) : ∃ b1, ((Body.pool b).leftBy p).1 = .pool b1 ∧
    b1.unitsOf p = b.unitsOf p ∧ b1.lists p = b.lists p := by
  cases hw : b.waiters.any (ofPort p) with
  | false => exact ⟨b, by rw [Body.leftBy_idle hw], rfl, rfl⟩
  | true =>
    obtain ⟨-, -, -, -, hu, hl, -⟩ := (b.endWaiters (ofPort p)).grants_cascade
    have hne : ∀ w ∈ (b.endWaiters (ofPort p)).waiters.take (b.endWaiters (ofPort p)).cascade.2.length, w.port ≠ p :=
      fun w hm => port_ne_of_mem_endWaiters w (List.mem_of_mem_take hm)
    refine ⟨_, by rw [Body.leftBy_waiting hw], ?_, ?_⟩
    · rw [hu, unitsAsked_eq_zero hne]
      rfl
    · rw [Bool.eq_iff_iff, hl]
      exact or_iff_left fun ⟨w, hm, hp⟩ => hne w hm hp

theorem Body.leftBy_of_no_waiter {p : Port} {body : Body} (h : ∀ w ∈ body.waiters, w.port ≠ p) :
    (body.leftBy p).1 = body := by
  rcases Body.leftBy_cases p body with he | ⟨b, rfl, hw, -⟩
  · rw [he]
  · obtain ⟨w, hm, hp⟩ := List.any_eq_true.1 hw
    exact absurd (by simpa [ofPort] using hp) (h w hm)

theorem HeldRetire.discardOf_eq (p : Port) (held : HeldRetire) : held.discardOf p = match held with
    | .pending q g => if q = p then .discarded else .pending q g
    | .absent => .absent
    | .discarded => .discarded := by cases held <;> rfl

/-- The record of a slot after the entry. -/
theorem State.record_enterDraining {p : Port} {s : State} {i : Slot} {rec : Record} (h : (s.slot i).record = some rec) :
    ((s.enterDraining p).slot i).record = some (Record.forget p { rec with body := (rec.body.leftBy p).1 }) := by
  rw [State.slot_enterDraining, SlotState.forget, SlotState.leftBy, h]
  rfl

/-! ### The entry as one event -/

theorem State.port_enterDraining_ne {p q : Port} (hq : q ≠ p) (s : State) : (s.enterDraining p).port q =
    if (s.port q).mode = .draining then s.port q else
      { s.port q with responses := (s.port q).responses ++ responsesFor q (allSlots.flatMap (s.leaving p)) } := by
  have h : (s.enterDraining p).port q = ((s.modifyPort p (PortState.cleared .draining)).dropWaiters p).port q := by
    rw [State.port, State.ports_enterDraining]; rfl
  rw [h, State.dropWaiters, State.port_foldl_dropWaitersAt p q allSlots (List.nodup_finRange 256),
    State.port_modifyPort_ne hq.symm]
  rfl

theorem State.entryOf_enterDraining {p q : Port} (hq : q ≠ p) {s : State} (ho : s.changedSetsOrdered) (i : Slot) :
    entryOf i (s.enterDraining p).changed[q.val] = s.entryAfter p q i := by
  have h : (s.enterDraining p).changed[q.val] =
      ((s.modifyPort p (PortState.cleared .draining)).dropWaiters p).changed[q.val] := by
    simp only [State.changed_enterDraining, changed_set, if_neg hq.symm]
  have ho' : (s.modifyPort p (PortState.cleared .draining)).changedSetsOrdered := State.changedSetsOrdered_congr rfl ho
  rw [h, State.dropWaiters, State.entryOf_foldl_dropWaitersAt p q allSlots (List.nodup_finRange 256) ho',
    if_pos (show i ∈ allSlots from List.mem_finRange i)]
  rfl

/-- A field that no event of the entry touches, and that is not the entry's own, stays. -/
theorem State.enterDraining_keeps {α : Type} {p : Port} (f : State → α)
    (h : ∀ (s : State) (i : Slot) (r0 r1 : Record) (rs : List (Port × Response)), f (s.finishEvent i r0 r1 rs) = f s)
    (h0 : ∀ (s : State) (ports : Vector PortState 4), f { s with ports := ports } = f s)
    (h1 : ∀ (s : State) (slots : Vector SlotState 256) (changed : Vector (List ChangedEntry) 4) (cursors : Vector Nat 4),
      f { s with slots := slots, changed := changed, cursors := cursors } = f s) (s : State) :
    f (s.enterDraining p) = f s :=
  ((h1 ..).trans (State.dropWaiters_keeps f h _)).trans (h0 ..)

/-! ### The walk step (R160 to R163) -/

/-- The end of a walk step of port `p` on slot `i`: the cursor and the service position move on, and after slot 255 the port is
OFFLINE. -/
theorem State.walkStepFor_end {s : State} {p : Port} {i : Slot} (hc : s.cursors[p.val] = i.val) : s.walkStepFor p =
    if i.val = 255 then
      { s.reclaimSlot p i with
        cursors := (s.reclaimSlot p i).cursors.set p.val (i.val + 1)
        servicePos := p + 1
        ports := (s.reclaimSlot p i).ports.set p.val { (s.reclaimSlot p i).port p with mode := .offline }
        mattnReasons := (s.reclaimSlot p i).mattnReasons ||| (0x04#8 <<< p.val) }
    else
      { s.reclaimSlot p i with cursors := (s.reclaimSlot p i).cursors.set p.val (i.val + 1), servicePos := p + 1 } := by
  have hi : Fin.ofNat 256 i.val = i := Fin.ofNat_val_eq_self i
  have hlt := i.isLt
  simp only [State.walkStepFor, hc, hi, State.advanceCursor, Config.slotCount]
  by_cases h : i.val = 255
  · rw [if_pos h, if_neg (by omega), ← reclaimDone_bit]
    rfl
  · rw [if_neg h, if_pos (by omega)]

theorem State.reclaimSlot_record {s : State} {p : Port} {i : Slot} {rec : Record} (h : (s.slot i).record = some rec) :
    s.reclaimSlot p i = s.finishEvent i rec (rec.reclaim p) (rec.body.reclaim p).2 := by rw [State.reclaimSlot, h]

/-- An event that leaves the body drains nothing. -/
theorem State.finishEvent_sameBody {i : Slot} {r0 r1 : Record} (hb : r1.body = r0.body) (rs : List (Port × Response))
    (s : State) : s.finishEvent i r0 r1 rs = (s.placeAll rs).updateRecord i r0 r1 := by
  have hc : r1.committed = r0.committed := by rw [Record.committed, hb, Record.committed]
  have hd : drains r0 r1 = false := by
    rw [drains, hc]
    cases r0.committed <;> simp
  rw [State.finishEvent, hd]
  rfl

/-- On a record whose body the walk leaves, its step takes the ownership alone. -/
theorem State.reclaimSlot_sameBody {s : State} {p : Port} {i : Slot} {rec : Record} (h : (s.slot i).record = some rec)
    (hb : rec.body.reclaim p = (rec.body, [])) : s.reclaimSlot p i =
      s.updateRecord i rec { rec with owner := if rec.owner = some p then none else rec.owner } := by
  have hrec : rec.reclaim p = { rec with owner := if rec.owner = some p then none else rec.owner } := by
    rw [Record.reclaim, hb]
  rw [State.reclaimSlot_record h, hrec, State.finishEvent_sameBody (by rfl), hb]
  rfl

end Sys2Proof.Machine

namespace Sys2Proof.Proofs

open Sys2Proof.Machine

/-- Settles O41: each block after the entry; the events on the records are folded slot by slot. -/
theorem entryIntoDraining : Obligations.EntryIntoDraining := by
  intro s p _ t grants
  refine ⟨⟨State.port_enterDraining_self p s, ?_, ?_⟩, fun q hq => ⟨?_, State.port_enterDraining_ne hq s⟩, fun i => ⟨?_,
    fun hn => ?_, fun rec hr => ⟨_, State.record_enterDraining hr, rfl, rfl, rfl, rfl, rfl, HeldRetire.discardOf_eq p rec.held,
      rfl, fun b hb hw => ?_, Body.leftBy_of_no_waiter, (quietFor_leftBy_forget p rec).2.2, fun b hb => ?_⟩⟩,
    ?_, fun hlaw => ?_, fun hlines => State.counted_enterDraining p hlines, fun ho q i hq => ?_, ?_⟩
  · simp [t, State.changed_enterDraining]
  · simp [t, State.cursors_enterDraining]
  · simp [t, State.cursors_enterDraining, Fin.val_inj, Ne.symm hq]
  · rw [State.slot_enterDraining]
    rfl
  · rw [State.slot_enterDraining, SlotState.forget, SlotState.leftBy, hn]
    rfl
  · have hany : b.waiters.any (ofPort p) = true :=
      let ⟨w, hm, hp⟩ := hw
      List.any_eq_true.2 ⟨w, hm, by simp [ofPort, hp]⟩
    show (rec.body.leftBy p).1 = _
    rw [hb, Body.leftBy_waiting hany]
    rfl
  · show ∃ b1, (rec.body.leftBy p).1 = _ ∧ _
    rw [hb]
    exact Body.leftBy_pool b p
  · exact State.waiterTotal_enterDraining p s
  · exact State.holdingTotal_enterDraining p hlaw
  · rw [State.entryOf_enterDraining hq ho i, State.entryAfter]
    refine ⟨fun hn => by rw [hn], fun rec hr => ?_⟩
    rw [hr]
  · have hkeeps := State.enterDraining_keeps (p := p) (fun u => (u.rotation, u.servicePos, u.condition, u.clear, u.frame,
      u.mattnReasons, u.waitUnit, u.unitPos, u.expiryEvents, u.failedAreas, u.mattnMask, u.purgeSlot, u.resetAsserted,
      u.chipSelect, u.sdo, u.pending)) (by simp) (fun _ _ => rfl) (fun _ _ _ _ => rfl) s
    simpa only [Prod.mk.injEq] using hkeeps

/-- Settles O42: the step by the body of the record in the slot of the cursor. -/
theorem walkStepActsOnOneSlot : Obligations.WalkStepActsOnOneSlot := by
  intro s p i ht hd hc hbefore s1 ends
  have hw : s.walkPort = some p :=
    State.walkPort_eq_some (State.walking_iff.2 ⟨hd, hc ▸ i.isLt⟩) fun q hq =>
      Bool.eq_false_iff.2 fun h => hbefore q hq (State.walking_iff.1 h)
  have hends : ∀ t : State, s1.reclaimSlot p i = t → ends t := fun t he => by
    rw [← he]
    refine (exec_walkStep ht hw).trans (congrArg Host.Outcome.next ?_)
    exact State.walkStepFor_end (s := s1) hc
  refine ⟨fun hr => hends _ ?_, fun rec hr => ?_⟩
  · rw [State.reclaimSlot, show (s1.slot i).record = none from hr]
  · intro owner
    have hr1 : (s1.slot i).record = some rec := hr
    refine ⟨fun b hb hl => hends _ ?_, fun b hb hl => hends _ ?_, fun b hb => ⟨b.reclaim p, rfl, fun n => ⟨fun hn => ?_, fun hn => ?_⟩,
      hends _ ?_⟩, fun c hb => hends _ ?_, fun b hb => hends _ ?_⟩
    · rw [State.reclaimSlot_record hr1, Record.reclaim, hb, Body.reclaim, if_pos hl]
    · exact State.reclaimSlot_sameBody hr1 (by rw [hb]; exact if_neg (by simp [hl]))
    · rw [FlagSet.claimants_reclaim, if_pos hn, FlagSet.getLsbD_reclaim, hn]
      simp
    · rw [FlagSet.claimants_reclaim, if_neg hn, FlagSet.getLsbD_reclaim, beq_eq_false_iff_ne.2 hn]
      simp
    · rw [State.reclaimSlot_record hr1, Record.reclaim, hb]
      rfl
    · exact State.reclaimSlot_sameBody hr1 (by rw [hb]; rfl)
    · exact State.reclaimSlot_sameBody hr1 (by rw [hb]; rfl)

end Sys2Proof.Proofs
end
